-- ==== Sys2Proof/Word.lean ====
section
/-!
DEFINITION. Word.lean: the byte and the 16-bit word of the CX-340 (R33, R162).
-/
namespace Sys2Proof

/-- A byte on the Fleet Line or at the host port (R145, R176). -/
abbrev Byte := BitVec 8

/-- A 16-bit word: a context word, a context sum, the backoff generator (R33, R34, R149). -/
abbrev Word := BitVec 16

end Sys2Proof
end

