-- ==== Sys2Proof/Syntax.lean ====
section
/-!
DEFINITION. Syntax.lean: the commands of the CX-340, one constructor per row of
spec/opcode_table.json. A host command carries the bytes that follow its command code in its
transaction (R176, R177); a row that takes the frame at the head of the receive FIFO (R160) carries
nothing, for the frame stands in the state; a seat's timer carries the seat.
-/
namespace Sys2Proof

/-- A command: one step of the part, "each whole and indivisible". -/
inductive Instr where
  -- Resets and pins.
  /-- HARD_RESET (R206). -/
  | hardReset
  /-- STOP_N_TAKEN (R82): `low` is the level taken, true for low. -/
  | stopNTaken (low : Bool)
  -- Transactions that execute no command.
  /-- EMPTY_TRANSACTION (R176). -/
  | emptyTransaction
  /-- UNKNOWN_COMMAND (R176): the unassigned code and what follows it. -/
  | unknownCommand (code : Byte) (params : List Byte)
  -- Setup commands (R198 to R203).
  | setRole (params : List Byte)
  | setStation (params : List Byte)
  | setClock (params : List Byte)
  | setLineRate (params : List Byte)
  | setTiming (params : List Byte)
  | setRamp (params : List Byte)
  | setStrobe (params : List Byte)
  | start (params : List Byte)
  -- Chair commands (R89 to R117).
  | seatAsk (params : List Byte)
  | seatYield (params : List Byte)
  | seatDecline (params : List Byte)
  | seatRelease (params : List Byte)
  | seatSetpoint (params : List Byte)
  | seatLimit (params : List Byte)
  | seatHold (params : List Byte)
  | seatGo (params : List Byte)
  | seatAbandon (params : List Byte)
  | seatRead (params : List Byte)
  | contextWrite (params : List Byte)
  | contextRead (params : List Byte)
  | seizeArm (params : List Byte)
  | seize (params : List Byte)
  | haltMachine (params : List Byte)
  | resumeMachine (params : List Byte)
  | fleetRead (params : List Byte)
  -- Machine commands (R31, R32, R78 to R80).
  | position (params : List Byte)
  | localHalt (params : List Byte)
  | localResume (params : List Byte)
  | clearBinding (params : List Byte)
  | slotRead (params : List Byte)
  -- Zone commands (R120 to R134).
  | zoneWrite (params : List Byte)
  | zoneRead (params : List Byte)
  | zoneGeneration (params : List Byte)
  | zoneFence (params : List Byte)
  | zoneLookup (params : List Byte)
  -- Port commands (R189, R195, R197).
  | statusRead (params : List Byte)
  | noticeRead (params : List Byte)
  | softReset (params : List Byte)
  -- The listen period (R205).
  | listenTimerExpiry
  -- Line events (R142 to R161).
  /-- COMPLETE_FRAME (R156, R157): the levels heard on LRX, one a bit time, true for high, from the last
  row of the line up to the frame's last stop bit, and whether this station drove every bit of the frame
  in an attempt without a mismatch (R159). -/
  | completeFrame (levels : List Bool) (driven : Bool)
  /-- FRAME_START (R146): the line has been at the high level for `bits` more bit times, and the
  head frame's start is judged. -/
  | frameStart (bits : Nat)
  | frameSent
  | mismatch
  /-- BACKOFF_END (R149): `slots` more slots have been counted. -/
  | backoffEnd (slots : Nat)
  -- Frames a MACHINE takes from its FIFO (R4).
  | ask
  | seizeFrame
  | yield
  | decline
  | release
  | admitFrame
  | drive
  | halt
  | resume
  | witnessSegment
  | witnessSum
  | accept
  | abandon
  -- Timers of a MACHINE.
  | heartbeatExpiry
  | yieldWindowExpiry
  | handoverWindowExpiry
  | beaconPeriodExpiry
  | rampTimerExpiry
  | strobeTimerExpiry
  -- Frames a CHAIR takes from its FIFO (R158).
  | beacon
  | grant
  | refuse
  | propose
  | openTransfer
  | receiverSegment
  | receiverSum
  | go
  | hold
  | stop
  | lag
  | commit
  | abort
  -- Timers of a CHAIR.
  | drivePeriodExpiry
  | askRepeat (seat : Fin 4)
  | answerWaitExpiry (seat : Fin 4)
  | localProposalWaitExpiry (seat : Fin 4)
  | localHandoverWaitExpiry (seat : Fin 4)
  | ageOut (machine : Nat)
  /-- RECEIVE_ASSEMBLY_DISCARDED (R156): the levels heard on LRX have ended the assembly short of a frame. -/
  | receiveAssemblyDiscarded
  deriving DecidableEq, Repr

end Sys2Proof
end

