-- ==== Sys2Proof/Decode.lean ====
section
/-!
DEFINITION. Decode.lean: the command a table word spells, and the command a host transaction spells. Every
row of spec/opcode_table.json has no bits, so no table word spells a command: a block has no instruction words
(log 1). The bytes of a line frame are read by Machine/Frames.lean.
-/
namespace Sys2Proof

/-- The command that the table's bits spell: none, since no row of the table gives bits. -/
def decodeTableWord (_nbits _w : Nat) : Option Instr := none

/-- The row that a host transaction is, from its complete bytes: the first is the command code, the others are
its parameters (R176, R177). -/
def commandOfTransaction : List Byte → Instr
  | [] => .emptyTransaction
  | code :: ps =>
    match code.toNat with
    | 0x10 => .setRole ps
    | 0x11 => .setStation ps
    | 0x12 => .setClock ps
    | 0x13 => .setLineRate ps
    | 0x14 => .setTiming ps
    | 0x15 => .setRamp ps
    | 0x16 => .setStrobe ps
    | 0x17 => .start ps
    | 0x20 => .seatAsk ps
    | 0x21 => .seatYield ps
    | 0x22 => .seatDecline ps
    | 0x23 => .seatRelease ps
    | 0x24 => .seatSetpoint ps
    | 0x25 => .seatLimit ps
    | 0x26 => .seatHold ps
    | 0x27 => .seatGo ps
    | 0x28 => .seatAbandon ps
    | 0x29 => .seatRead ps
    | 0x2C => .contextWrite ps
    | 0x2D => .contextRead ps
    | 0x30 => .seizeArm ps
    | 0x31 => .seize ps
    | 0x34 => .haltMachine ps
    | 0x35 => .resumeMachine ps
    | 0x38 => .fleetRead ps
    | 0x40 => .position ps
    | 0x41 => .localHalt ps
    | 0x42 => .localResume ps
    | 0x43 => .clearBinding ps
    | 0x44 => .slotRead ps
    | 0x50 => .zoneWrite ps
    | 0x51 => .zoneRead ps
    | 0x52 => .zoneGeneration ps
    | 0x53 => .zoneFence ps
    | 0x54 => .zoneLookup ps
    | 0x60 => .statusRead ps
    | 0x61 => .noticeRead ps
    | 0x6F => .softReset ps
    | _ => .unknownCommand code ps

/-- The bytes of the transaction that a row of the host port is; none for a row that is no transaction (R176,
R177). -/
def Instr.transactionBytes : Instr → Option (List Byte)
  | .emptyTransaction => some []
  | .unknownCommand code ps => some (code :: ps)
  | .setRole ps => some (0x10#8 :: ps)
  | .setStation ps => some (0x11#8 :: ps)
  | .setClock ps => some (0x12#8 :: ps)
  | .setLineRate ps => some (0x13#8 :: ps)
  | .setTiming ps => some (0x14#8 :: ps)
  | .setRamp ps => some (0x15#8 :: ps)
  | .setStrobe ps => some (0x16#8 :: ps)
  | .start ps => some (0x17#8 :: ps)
  | .seatAsk ps => some (0x20#8 :: ps)
  | .seatYield ps => some (0x21#8 :: ps)
  | .seatDecline ps => some (0x22#8 :: ps)
  | .seatRelease ps => some (0x23#8 :: ps)
  | .seatSetpoint ps => some (0x24#8 :: ps)
  | .seatLimit ps => some (0x25#8 :: ps)
  | .seatHold ps => some (0x26#8 :: ps)
  | .seatGo ps => some (0x27#8 :: ps)
  | .seatAbandon ps => some (0x28#8 :: ps)
  | .seatRead ps => some (0x29#8 :: ps)
  | .contextWrite ps => some (0x2C#8 :: ps)
  | .contextRead ps => some (0x2D#8 :: ps)
  | .seizeArm ps => some (0x30#8 :: ps)
  | .seize ps => some (0x31#8 :: ps)
  | .haltMachine ps => some (0x34#8 :: ps)
  | .resumeMachine ps => some (0x35#8 :: ps)
  | .fleetRead ps => some (0x38#8 :: ps)
  | .position ps => some (0x40#8 :: ps)
  | .localHalt ps => some (0x41#8 :: ps)
  | .localResume ps => some (0x42#8 :: ps)
  | .clearBinding ps => some (0x43#8 :: ps)
  | .slotRead ps => some (0x44#8 :: ps)
  | .zoneWrite ps => some (0x50#8 :: ps)
  | .zoneRead ps => some (0x51#8 :: ps)
  | .zoneGeneration ps => some (0x52#8 :: ps)
  | .zoneFence ps => some (0x53#8 :: ps)
  | .zoneLookup ps => some (0x54#8 :: ps)
  | .statusRead ps => some (0x60#8 :: ps)
  | .noticeRead ps => some (0x61#8 :: ps)
  | .softReset ps => some (0x6F#8 :: ps)
  | .hardReset | .stopNTaken _ | .listenTimerExpiry | .completeFrame .. | .frameStart _ | .frameSent
  | .mismatch | .backoffEnd _ | .ask | .seizeFrame | .yield | .decline | .release | .admitFrame | .drive
  | .halt | .resume | .witnessSegment | .witnessSum | .accept | .abandon | .heartbeatExpiry
  | .yieldWindowExpiry | .handoverWindowExpiry | .beaconPeriodExpiry | .rampTimerExpiry
  | .strobeTimerExpiry | .beacon | .grant | .refuse | .propose | .openTransfer | .receiverSegment
  | .receiverSum | .go | .hold | .stop | .lag | .commit | .abort | .drivePeriodExpiry | .askRepeat _
  | .answerWaitExpiry _ | .localProposalWaitExpiry _ | .localHandoverWaitExpiry _ | .ageOut _
  | .receiveAssemblyDiscarded => none

end Sys2Proof
end

