-- ==== Sys2Proof/Config.lean ====
section
/-!
DEFINITION. Config.lean: the sizes and fixed times the spec gives every CX-340, and the values it
gives the configuration record after a hard reset. Nothing here is free: the spec states every one.
-/
namespace Sys2Proof.Config

/-- Frames the transmit queue holds (R142, R151). -/
abbrev transmitDepth : Nat := 8
/-- SEGMENT frames the transmit queue holds (R151). -/
abbrev segmentDepth : Nat := 3
/-- Frames the receive FIFO holds (R160). -/
abbrev receiveDepth : Nat := 8
/-- Notices the notice queue holds (R191). -/
abbrev noticeDepth : Nat := 32
/-- Entries of the lookup cache (R126). -/
abbrev cacheDepth : Nat := 8
/-- Records of the Fleet View (R114). -/
abbrev fleetDepth : Nat := 32
/-- Words of a context area (R86). -/
abbrev areaWords : Nat := 384
/-- Least length of an operating context (R33). -/
abbrev contextLeast : Nat := 8
/-- Highest speed value, 25.0 km/h (R198, R73). -/
abbrev speedMost : Nat := 250
/-- The target "all stations" (R157). -/
abbrev allStations : Nat := 63
/-- Highest station number (R157). -/
abbrev stationMost : Nat := 60
/-- The listen period in ms (R203). -/
abbrev listenPeriod : Nat := 1000
/-- Collisions at which a frame is dropped (R150). -/
abbrev collisionMost : Nat := 8
/-- LAG frames at which a transfer is aborted (R55, R57). -/
abbrev lagMost : Nat := 5
/-- Segments the receiver still judges after its HOLD (R48). -/
abbrev pauseAllowance : Nat := 3
/-- Depth of the receive FIFO that sets the pressure flag (R47). -/
abbrev pressureSet : Nat := 6
/-- Depth of the receive FIFO that clears the pressure flag (R47). -/
abbrev pressureClear : Nat := 2

end Sys2Proof.Config
end

