-- ==== Sys2Proof/Machine/State.lean ====
section
/-!
DEFINITION. Machine/State.lean: all the state the spec gives a CX-340, as plain data, and its values
after a hard reset. The blocks of the two roles stand in `Blocks`, so that a station holds the state
of its own role alone (00_scope.md, Block overview; R1, R36, R63, R86, R114).
-/
namespace Sys2Proof.Machine

/-- The machine stops with a fault: never. The spec gives every step of the table an effect in every
state (INVENTORY.md, Faults), so no constructor stands here and nothing raises one. Safe. -/
inductive Fault where
  deriving DecidableEq, Repr

/-- Why a command has no meaning. -/
inductive Refusal where
  /-- Raised by an arm of `exec` for a command without a meaning; no arm raises it now. Safe. -/
  | notModelled (mnemonic : String)
  deriving DecidableEq, Repr

/-! ### Names -/

/-- The roles (R199); `unset` until SET ROLE. -/
inductive Role where
  | unset | chair | machine
  deriving DecidableEq, Repr

/-- The station states (R198). -/
inductive StationState where
  | setup | listen | online
  deriving DecidableEq, Repr

/-- The strobe polarities (R85). -/
inductive Polarity where
  | activeHigh | activeLow
  deriving DecidableEq, Repr

/-- The binding states as frames and notices name them (R175). -/
inductive BindingCode where
  | unbound | bound | proposed | transfer | orphaned
  deriving DecidableEq, Repr

/-- The reasons of R174. -/
inductive Reason where
  | none
  | busy | notAdmitted | zoneChanged | seizeRequired | notOrphaned | yieldTimeout | declined
  | senderAbandon | receiverAbandon | receiverBusy | windowExpired | contextMismatch | witnessGap
  | senderSilent | localClear
  | noAnswer | machineLost | noEntry | malformed | collisions | queueFull
  | bindingState (code : BindingCode)
  deriving DecidableEq, Repr

/-- The notice kinds of R180. -/
inductive NoticeKind where
  | binding | halt | stopInput | zoneFault
  | granted | refused | proposal | proposalEnded | handed | committed | aborted | conflict
  | orphanedSeen | lineDrop | clash | startDone | startFailed
  deriving DecidableEq, Repr

/-- The response codes of R178. -/
inductive ResponseCode where
  | ok | adjusted | wrongState | wrongRole | badParameter
  | seatsFull | seatBusy | engineBusy | unknownMachine | notArmed | collided | notOrphaned
  | unknownCommand
  deriving DecidableEq, Repr

/-! ### Zones -/

/-- A rights set, drawn from VIEW, DRIVE, LOAD and TIP (00_scope.md, Terms). -/
structure Rights where
  view : Bool
  drive : Bool
  load : Bool
  tip : Bool
  deriving DecidableEq, Repr

/-- The empty rights set {}. -/
abbrev Rights.empty : Rights := ⟨false, false, false, false⟩

/-- A zone code s.c.d (00_scope.md, Terms). -/
structure ZoneCode where
  sublevel : Fin 16
  crosscut : Fin 32
  drawpoint : Fin 16
  deriving DecidableEq, Repr

/-- The zone code 0.0.0. -/
abbrev ZoneCode.zero : ZoneCode := ⟨0, 0, 0⟩

/-- A zone prefix of level 1, 2 or 3 (R122, R126). -/
inductive ZonePrefix where
  | level1 (s : Fin 16)
  | level2 (s : Fin 16) (c : Fin 32)
  | level3 (s : Fin 16) (c : Fin 32) (d : Fin 16)
  deriving DecidableEq, Repr

/-- An entry of the zone table (R118). -/
inductive ZoneEntry where
  | absent
  | leaf (rights : Rights) (limit : Nat) (isGlobal : Bool)
  | branch (child : Nat)
  deriving DecidableEq, Repr

/-- The kinds of lookup fault (R123). -/
inductive ZoneFault where
  | noEntry | malformed
  deriving DecidableEq, Repr

/-- What a successful walk gives (R122). -/
structure ZoneResult where
  rights : Rights
  limit : Nat
  isGlobal : Bool
  deriving DecidableEq, Repr

/-- An entry of the lookup cache (R126). -/
structure CacheEntry where
  covered : ZonePrefix
  generation : Nat
  result : ZoneResult
  deriving DecidableEq, Repr

/-- A buffer of addressed values in canonical form: addresses strictly rising, and no entry equal to
what an unlisted address reads as (log 21). -/
abbrev Store (α : Type) := List (Nat × α)

/-- The zone table, its active generation and the lookup cache, oldest-filled first (R118, R125,
R126). -/
structure Zones where
  table : Store ZoneEntry
  generation : Nat
  cache : List CacheEntry
  deriving DecidableEq, Repr

/-- A chair's terms for a machine: a zone code, a rights set and a limit (R91, R168). -/
structure Terms where
  zone : ZoneCode
  rights : Rights
  limit : Nat
  deriving DecidableEq, Repr

/-- The terms 0.0.0, {} and 0 (R87). -/
abbrev Terms.zero : Terms := ⟨ZoneCode.zero, Rights.empty, 0⟩

/-- Speed, steer, boom and bucket demands and the stop flag (R73, R86). -/
structure Setpoints where
  speed : Int
  steer : Int
  boom : Int
  bucket : Int
  stop : Bool
  deriving DecidableEq, Repr

/-- All demands 0, the stop flag clear. -/
abbrev Setpoints.zero : Setpoints := ⟨0, 0, 0, 0, false⟩

/-! ### Frames -/

/-- The body of a Fleet Line frame, one constructor per kind of R163, with the fields of R164 after
the clamping at reception (R162). -/
inductive Body where
  | beacon (state : BindingCode) (controller epoch : Nat) (zone : ZoneCode) (ceiling : Nat)
      (halted : Bool) (transfer : Nat)
  | drive (epoch sequence : Nat) (demand : Setpoints)
  | ask (terms : Terms)
  | grant (epoch : Nat) (zone : ZoneCode)
  | refuse (reason : Reason)
  | propose (asker epoch : Nat)
  | yield (epoch length : Nat)
  | decline (epoch : Nat)
  | openTransfer (transfer sender receiver length : Nat)
  | segment (transfer burst index : Nat) (words : List Word)
  | hold (transfer burst : Nat)
  | go (transfer burst index : Nat)
  | stop (transfer burst : Nat)
  | sum (transfer length : Nat) (sum : Word)
  | accept (transfer : Nat) (sum : Word)
  | lag (transfer index : Nat)
  | abandon (transfer : Nat) (reason : Reason)
  | commit (controller epoch transfer : Nat)
  | abort (transfer : Nat) (reason : Reason) (controller epoch : Nat)
  | release (epoch : Nat)
  | seize (terms : Terms)
  | admission (epoch : Nat) (terms : Terms)
  | halt
  | resume (epoch : Nat)
  deriving DecidableEq, Repr

/-- A frame: its source, its target and its body (R145). -/
structure Frame where
  source : Nat
  target : Nat
  body : Body
  deriving DecidableEq, Repr

/-! ### The Line Controller -/

/-- The transmitter states (R142). -/
inductive Transmitter where
  | idle | defer | sending | backoff
  deriving DecidableEq, Repr

/-- A frame of the transmit queue, its collision count and its remaining slots (R142). -/
structure QueuedFrame where
  frame : Frame
  collisions : Nat
  slots : Nat
  deriving DecidableEq, Repr

/-- A frame being heard on LRX (R142, R156): its bytes taken whole, and the levels heard where its next byte
stands, one a bit time, true for high: the start bit first, or the one bit time at the high level that may
stand where a start bit is due. -/
structure Assembly where
  bytes : List Byte
  levels : List Bool
  deriving DecidableEq, Repr

/-- The Line Controller's state (R142) but for the rate in force, which is the configuration's line
rate pair. -/
structure Line where
  transmitter : Transmitter
  queue : List QueuedFrame
  generator : Word
  quiet : Nat
  assembly : Option Assembly
  fifo : List Frame
  overrun : Bool
  deriving DecidableEq, Repr

/-! ### The Host Command Port and the Notice Queue -/

/-- A response: its code and its data (R176, R182). -/
structure Response where
  code : ResponseCode
  data : List Byte
  deriving DecidableEq, Repr

/-- The port's state (R182). -/
structure Port where
  response : Response
  transaction : Option (List Byte)
  writeCollision : Bool
  clashSeen : Bool
  deriving DecidableEq, Repr

/-- A notice record (R180); `seat` is none for the seat byte 0xFF. -/
structure Notice where
  kind : NoticeKind
  seat : Option (Fin 4)
  station : Nat
  reason : Reason
  value : Nat
  deriving DecidableEq, Repr

/-- The notice queue, oldest first, the notice-overrun flag and its clear step (R191 to R194). -/
structure Notices where
  queue : List Notice
  overrun : Bool
  clearStep : Bool
  deriving DecidableEq, Repr

/-! ### The configuration record -/

/-- The configuration record of R198 but for the role, which `Blocks` holds. -/
structure Configuration where
  station : Nat
  clock : Nat
  prescaler : Nat
  select : Nat
  beaconPeriod : Nat
  drivePeriod : Nat
  heartbeat : Nat
  missLimit : Nat
  yieldWindow : Nat
  handoverWindow : Nat
  hostSilence : Nat
  fleetAge : Nat
  rampInterval : Nat
  rampStep : Nat
  crawlFloor : Nat
  reverseRatio : Nat
  strobeWidth : Nat
  polarity : Polarity
  deriving DecidableEq, Repr

/-- The configuration after a hard reset (R198). -/
def Configuration.reset : Configuration where
  station := 0
  clock := 16000
  prescaler := 1
  select := 3
  beaconPeriod := 250
  drivePeriod := 50
  heartbeat := 100
  missLimit := 4
  yieldWindow := 10
  handoverWindow := 20
  hostSilence := 300
  fleetAge := 2000
  rampInterval := 500
  rampStep := 10
  crawlFloor := 15
  reverseRatio := 4
  strobeWidth := 49
  polarity := .activeHigh

/-! ### The blocks of a MACHINE -/

/-- A proposal: the asker, its ASK fields and the yield-window deadline (R1). -/
structure Proposal where
  asker : Nat
  terms : Terms
  deadline : Nat
  deriving DecidableEq, Repr

/-- The transfer record, with the ramp start ceiling C0 (R1, R53). -/
structure TransferRecord where
  number : Nat
  sender : Nat
  receiver : Nat
  length : Nat
  admission : Terms
  witnessIndex : Nat
  witnessSum : Word
  witnessedLimit : Option Nat
  senderSum : Option Word
  lagCount : Nat
  lastLagBurst : Option Nat
  firstError : Option Reason
  deadline : Nat
  startCeiling : Nat
  deriving DecidableEq, Repr

/-- The binding states, with the proposal present in PROPOSED and the transfer record in TRANSFER
(R1, R14). -/
inductive BindingState where
  | unbound
  | bound
  | proposed (proposal : Proposal)
  | transfer (record : TransferRecord)
  | orphaned
  deriving DecidableEq, Repr

/-- The machine zone result (R1, R2). -/
structure MachineZoneResult where
  rights : Rights
  limit : Nat
  fault : Bool
  deriving DecidableEq, Repr

/-- The binding record and the two timers of the Binding Unit (R1, R26, R30); a timer is its
deadline on the Time Base, or none when stopped (log 3). -/
structure Binding where
  state : BindingState
  controller : Nat
  epoch : Nat
  transferCounter : Nat
  misses : Nat
  seen : Bool
  admittedZone : ZoneCode
  admittedRights : Rights
  admittedLimit : Nat
  contextCap : Nat
  machineZone : Option ZoneCode
  zoneResult : MachineZoneResult
  heartbeat : Option Nat
  beaconTimer : Option Nat
  deriving DecidableEq, Repr

/-- The binding record after a hard reset (R3). -/
def Binding.reset : Binding where
  state := .unbound
  controller := 0
  epoch := 0
  transferCounter := 0
  misses := 0
  seen := false
  admittedZone := ZoneCode.zero
  admittedRights := Rights.empty
  admittedLimit := 0
  contextCap := 250
  machineZone := none
  zoneResult := ⟨Rights.empty, 0, false⟩
  heartbeat := none
  beaconTimer := none

/-- The ramp record (R63, R68): start ceiling C0, expiry count n, value R, the timer's deadline. -/
structure Ramp where
  start : Nat
  expiries : Nat
  value : Nat
  deadline : Nat
  deriving DecidableEq, Repr

/-- The held demand of the setpoint slot (R73). -/
structure HeldDemand where
  demand : Setpoints
  sequence : Option Nat
  acceptedAt : Option Nat
  deriving DecidableEq, Repr

/-- The zero demand (R73). -/
abbrev HeldDemand.zero : HeldDemand := ⟨Setpoints.zero, none, none⟩

/-- The outputs of the setpoint slot (R73). -/
structure Outputs where
  speed : Int
  steer : Int
  boom : Int
  bucket : Int
  deriving DecidableEq, Repr

/-- The Drive Gate's state (R63). -/
structure DriveGate where
  ceiling : Nat
  reverse : Nat
  combined : Rights
  ramp : Option Ramp
  halted : Bool
  stopActive : Bool
  held : HeldDemand
  outputs : Outputs
  strobeTimer : Option Nat
  driveEnable : Bool
  strobeActive : Bool
  deriving DecidableEq, Repr

/-- The Drive Gate after a hard reset (R64). -/
def DriveGate.reset : DriveGate where
  ceiling := 0
  reverse := 0
  combined := Rights.empty
  ramp := none
  halted := false
  stopActive := false
  held := HeldDemand.zero
  outputs := ⟨0, 0, 0, 0⟩
  strobeTimer := none
  driveEnable := false
  strobeActive := false

/-- The blocks a MACHINE alone has: the Binding Unit and the Drive Gate. -/
structure MachineBlocks where
  binding : Binding
  gate : DriveGate
  deriving DecidableEq, Repr

/-! ### The blocks of a CHAIR -/

/-- The seat states (R86). -/
inductive SeatState where
  | free | asking | waiting | seizing | holding | sending | receiving
  deriving DecidableEq, Repr

/-- A seat's proposal record: the asker and the local proposal wait, stopped in SENDING (R98, R99). -/
structure SeatProposal where
  asker : Nat
  wait : Option Nat
  deriving DecidableEq, Repr

/-- A context area: its words and its context length (R33, R86). -/
structure ContextArea where
  words : Store Word
  length : Nat
  deriving DecidableEq, Repr

/-- A seat record (R86). The setpoint age is held as the time of the last SEAT SETPOINT. `asked` holds the terms
the seat's ASK (or SEIZE) first carried, which the repeated ASK carries again (R92). -/
structure Seat where
  state : SeatState
  machine : Nat
  epoch : Nat
  limit : Nat
  setpoints : Setpoints
  setpointAt : Option Nat
  sequence : Nat
  lastAdmitted : Terms
  admitRepeat : Option Terms
  askRepeated : Bool
  asked : Terms
  proposal : Option SeatProposal
  transfer : Option Nat
  answerWait : Option Nat
  handoverWait : Option Nat
  area : ContextArea
  deriving DecidableEq, Repr

/-- A seat after a hard reset (R88); the drive sequence, the ask repeat and its terms are log 13's. -/
def Seat.reset : Seat where
  state := .free
  machine := 0
  epoch := 0
  limit := 250
  setpoints := Setpoints.zero
  setpointAt := none
  sequence := 0
  lastAdmitted := Terms.zero
  admitRepeat := none
  askRepeated := false
  asked := Terms.zero
  proposal := none
  transfer := none
  answerWait := none
  handoverWait := none
  area := ⟨[], 0⟩

/-- The four seats (R86). -/
structure Seats where
  seat0 : Seat
  seat1 : Seat
  seat2 : Seat
  seat3 : Seat
  deriving DecidableEq, Repr

/-- The sender's engine states (R36). -/
inductive SendState where
  | wait | run | paused | done
  deriving DecidableEq, Repr

/-- The receiver's engine states (R36). -/
inductive ReceiveState where
  | run | paused | stopped | check
  deriving DecidableEq, Repr

/-- The sender's part of the active-transfer record (R36). -/
structure Sender where
  state : SendState
  length : Nat
  position : Nat
  sum : Word
  queued : Nat
  deriving DecidableEq, Repr

/-- The receiver's part of the active-transfer record (R36). -/
structure Receiver where
  state : ReceiveState
  held : Nat
  resumeIndex : Nat
  burstSeen : Bool
  allowance : Nat
  hostHold : Bool
  pressure : Bool
  deriving DecidableEq, Repr

/-- The side of the active transfer with its fields (R36). -/
inductive Side where
  | sender (record : Sender)
  | receiver (record : Receiver)
  deriving DecidableEq, Repr

/-- The active-transfer record (R36). -/
structure ActiveTransfer where
  seat : Fin 4
  machine : Nat
  number : Nat
  peer : Nat
  length : Nat
  burst : Nat
  side : Side
  deriving DecidableEq, Repr

/-- The pending-receive record (R36). -/
structure PendingReceive where
  machine : Nat
  number : Nat
  sender : Nat
  length : Nat
  seat : Fin 4
  deriving DecidableEq, Repr

/-- The Transfer Engine (R36): IDLE when it holds no active transfer. -/
structure Engine where
  active : Option ActiveTransfer
  pendingReceive : Option PendingReceive
  deriving DecidableEq, Repr

/-- A record of the Fleet View (R114). -/
structure FleetRecord where
  machine : Nat
  state : BindingCode
  controller : Nat
  epoch : Nat
  zone : ZoneCode
  ceiling : Nat
  halted : Bool
  transfer : Nat
  heardAt : Nat
  deriving DecidableEq, Repr

/-- The blocks a CHAIR alone has: the Seat Table (seats, seize-armed record, drive period timer), the
Transfer Engine and the Fleet View, oldest record first (R36, R86, R114). -/
structure ChairBlocks where
  seats : Seats
  armed : Option Nat
  driveTimer : Option Nat
  engine : Engine
  fleet : List FleetRecord
  deriving DecidableEq, Repr

/-- A chair's blocks after a hard reset (R36, R88, R114). -/
def ChairBlocks.reset : ChairBlocks where
  seats := ⟨Seat.reset, Seat.reset, Seat.reset, Seat.reset⟩
  armed := none
  driveTimer := none
  engine := ⟨none, none⟩
  fleet := []

/-- A machine's blocks after a hard reset (R3, R64). -/
def MachineBlocks.reset : MachineBlocks := ⟨Binding.reset, DriveGate.reset⟩

/-- The blocks present in one role only. The constructor is the role (R199, log 18). -/
inductive Blocks where
  | unset
  | chair (blocks : ChairBlocks)
  | machine (blocks : MachineBlocks)
  deriving DecidableEq, Repr

/-! ### The station -/

/-- The state of a CX-340. `pending` is the queue of waiting commands, first in, first out: the
model's own field (log 1). -/
structure State where
  config : Configuration
  station : StationState
  listenTimer : Option Nat
  time : Nat
  zones : Zones
  line : Line
  port : Port
  notices : Notices
  blocks : Blocks
  pending : List Instr
  deriving DecidableEq, Repr

/-- The Line Controller after a hard reset (R142); the generator is seeded with 0 × 257. -/
def Line.reset : Line where
  transmitter := .idle
  queue := []
  generator := 0
  quiet := 0
  assembly := none
  fifo := []
  overrun := false

/-- The port after every reset (R182). -/
def Port.reset : Port where
  response := ⟨.ok, []⟩
  transaction := none
  writeCollision := false
  clashSeen := false

/-- The notice queue after every reset (R191, R194). -/
def Notices.reset : Notices where
  queue := []
  overrun := false
  clearStep := false

/-- The zone table and the cache after a hard reset (R119). -/
def Zones.reset : Zones where
  table := []
  generation := 0
  cache := []

/-- The station right after a hard reset (R206), its queue empty. -/
def State.reset : State where
  config := Configuration.reset
  station := .setup
  listenTimer := none
  time := 0
  zones := Zones.reset
  line := Line.reset
  port := Port.reset
  notices := Notices.reset
  blocks := .unset
  pending := []

/-- A MACHINE station with its blocks in reach: what the machine's rules read and write. -/
structure MachineView extends State, MachineBlocks

/-- A CHAIR station with its blocks in reach: what the chair's rules read and write. -/
structure ChairView extends State, ChairBlocks

end Sys2Proof.Machine
end

