-- ==== Sys2Proof/Machine/Operands.lean ====
section
/-!
DEFINITION. Machine/Operands.lean: every field encoding of the Frame Catalogue, read and written: the
types of R162, the codes of R174, R175, R178 and R180, the parameters of R177 and the records of R181.
Multi-byte fields are high byte first (R162).
-/
namespace Sys2Proof.Machine

/-! ### Numbers -/

/-- The byte of a number (its low eight bits). -/
def byteOf (n : Nat) : Byte := BitVec.ofNat 8 n

/-- A 16-bit number in two bytes, high byte first (R162). -/
def twoBytes (n : Nat) : List Byte := [byteOf (n / 256), byteOf n]

/-- The number in two bytes, high byte first (R162). -/
def fromTwo (hi lo : Byte) : Nat := hi.toNat * 256 + lo.toNat

/-- A context word or a sum in two bytes, high byte first (R162, R173). -/
def wordBytes (w : Word) : List Byte := twoBytes w.toNat

/-- The word in two bytes, high byte first. -/
def wordFrom (hi lo : Byte) : Word := BitVec.ofNat 16 (fromTwo hi lo)

/-- A signed number in one byte, two's complement (R162, percent demand). -/
def signedByte (i : Int) : Byte := BitVec.ofInt 8 i

/-- A signed number in two bytes, two's complement, high byte first (R162, speed demand). -/
def signedBytes (i : Int) : List Byte := wordBytes (BitVec.ofInt 16 i)

/-- The nearer bound of lo..hi when a value lies outside it. -/
def clampInt (lo hi i : Int) : Int := max lo (min hi i)

/-- The nearer bound of lo..hi when a number lies outside it (R187, R202). -/
def clampNat (lo hi n : Nat) : Nat := max lo (min hi n)

/-- A speed demand clamped to −250..+250 (R162, R105). -/
def clampSpeed (i : Int) : Int := clampInt (-250) 250 i

/-- A percent demand clamped to −100..+100 (R162, R105). -/
def clampPercent (i : Int) : Int := clampInt (-100) 100 i

/-- A limit: 251..255 taken as 250 (R162). -/
def clampLimit (n : Nat) : Nat := min n 250

/-- The flag byte of a bit (R162). -/
def flagByte (b : Bool) : Byte := if b then 1 else 0

/-- A flag byte reads as set when bit 0 is 1 (R162). -/
def flagOf (b : Byte) : Bool := b.getLsbD 0

/-! ### Rights, zone codes -/

/-- Bit 0 VIEW, bit 1 DRIVE, bit 2 LOAD, bit 3 TIP; bits 4..7 cleared (R162). -/
def rightsOf (b : Byte) : Rights := ⟨b.getLsbD 0, b.getLsbD 1, b.getLsbD 2, b.getLsbD 3⟩

/-- The rights byte of a rights set (R162). -/
def rightsByte (r : Rights) : Byte :=
  byteOf ((if r.view then 1 else 0) + (if r.drive then 2 else 0) + (if r.load then 4 else 0)
    + (if r.tip then 8 else 0))

/-- Two rights sets intersected (R8, R66). -/
def rightsInter (a b : Rights) : Rights :=
  ⟨a.view && b.view, a.drive && b.drive, a.load && b.load, a.tip && b.tip⟩

/-- s × 512 + c × 16 + d (R162). -/
def zoneNumber (z : ZoneCode) : Nat := z.sublevel.val * 512 + z.crosscut.val * 16 + z.drawpoint.val

/-- The zone code of a number, its fields cut to their ranges. -/
def zoneCut (n : Nat) : ZoneCode :=
  ⟨Fin.ofNat 16 (n / 512), Fin.ofNat 32 (n / 16), Fin.ofNat 16 n⟩

/-- The zone code of a number 0..8191; a number above has none (R162, R177). -/
def zoneOf (n : Nat) : Option ZoneCode := if n ≤ 8191 then some (zoneCut n) else none

/-! ### Codes -/

/-- Binding state codes (R175). -/
def bindingByte : BindingCode → Nat
  | .unbound => 0
  | .bound => 1
  | .proposed => 2
  | .transfer => 3
  | .orphaned => 4

/-- The binding state of a code 0..4 (R162). -/
def bindingOf : Nat → Option BindingCode
  | 0 => some .unbound
  | 1 => some .bound
  | 2 => some .proposed
  | 3 => some .transfer
  | 4 => some .orphaned
  | _ => none

/-- Reason codes (R174). -/
def reasonByte : Reason → Nat
  | .none => 0x00
  | .busy => 0x01
  | .notAdmitted => 0x02
  | .zoneChanged => 0x03
  | .seizeRequired => 0x04
  | .notOrphaned => 0x05
  | .yieldTimeout => 0x06
  | .declined => 0x07
  | .senderAbandon => 0x10
  | .receiverAbandon => 0x11
  | .receiverBusy => 0x12
  | .windowExpired => 0x13
  | .contextMismatch => 0x14
  | .witnessGap => 0x15
  | .senderSilent => 0x16
  | .localClear => 0x17
  | .noAnswer => 0x20
  | .machineLost => 0x21
  | .noEntry => 0x22
  | .malformed => 0x23
  | .collisions => 0x24
  | .queueFull => 0x25
  | .bindingState c => 0x30 + bindingByte c

/-- A reason of the REFUSE list (R174); any other code discards the frame. -/
def refuseReasonOf : Nat → Option Reason
  | 0x01 => some .busy
  | 0x02 => some .notAdmitted
  | 0x03 => some .zoneChanged
  | 0x04 => some .seizeRequired
  | 0x05 => some .notOrphaned
  | 0x06 => some .yieldTimeout
  | 0x07 => some .declined
  | _ => none

/-- A reason of the ABORT list (R174); any other code discards the frame. -/
def abortReasonOf : Nat → Option Reason
  | 0x10 => some .senderAbandon
  | 0x11 => some .receiverAbandon
  | 0x12 => some .receiverBusy
  | 0x13 => some .windowExpired
  | 0x14 => some .contextMismatch
  | 0x15 => some .witnessGap
  | 0x16 => some .senderSilent
  | 0x17 => some .localClear
  | _ => none

/-- Notice codes (R180). -/
def noticeByte : NoticeKind → Nat
  | .binding => 0x01
  | .halt => 0x02
  | .stopInput => 0x03
  | .zoneFault => 0x04
  | .granted => 0x10
  | .refused => 0x11
  | .proposal => 0x12
  | .proposalEnded => 0x13
  | .handed => 0x14
  | .committed => 0x15
  | .aborted => 0x16
  | .conflict => 0x17
  | .orphanedSeen => 0x18
  | .lineDrop => 0x20
  | .clash => 0x21
  | .startDone => 0x22
  | .startFailed => 0x23

/-- Response codes (R178). -/
def responseByte : ResponseCode → Nat
  | .ok => 0x00
  | .adjusted => 0x01
  | .wrongState => 0x10
  | .wrongRole => 0x11
  | .badParameter => 0x12
  | .seatsFull => 0x20
  | .seatBusy => 0x21
  | .engineBusy => 0x22
  | .unknownMachine => 0x23
  | .notArmed => 0x24
  | .collided => 0x25
  | .notOrphaned => 0x26
  | .unknownCommand => 0x30

/-- Seat state codes (R175). -/
def seatByte : SeatState → Nat
  | .free => 0
  | .asking => 1
  | .waiting => 2
  | .seizing => 3
  | .holding => 4
  | .sending => 5
  | .receiving => 6

/-- Engine state codes; 0 is IDLE (R175). -/
def engineByte : Option ActiveTransfer → Nat
  | none => 0
  | some a =>
    match a.side with
    | .sender r =>
      match r.state with
      | .wait => 1
      | .run => 2
      | .paused => 3
      | .done => 4
    | .receiver r =>
      match r.state with
      | .run => 5
      | .paused => 6
      | .stopped => 7
      | .check => 8

/-- Station state codes (R175). -/
def stationByte : StationState → Nat
  | .setup => 0
  | .listen => 1
  | .online => 2

/-- Role codes (R175). -/
def roleByte : Role → Nat
  | .unset => 0
  | .chair => 1
  | .machine => 2

/-- Lookup fault codes (R175). -/
def faultByte : Option ZoneFault → Nat
  | none => 0
  | some .noEntry => 1
  | some .malformed => 2

/-- The reason that names a lookup fault in a notice (R136, R138). -/
def faultReason : ZoneFault → Reason
  | .noEntry => .noEntry
  | .malformed => .malformed

/-! ### Parameters of a host command (R177) -/

/-- Parameter byte `i` as a number. -/
def param (ps : List Byte) (i : Nat) : Nat := (ps.getD i 0).toNat

/-- The two-byte parameter at byte `i` as a number. -/
def param2 (ps : List Byte) (i : Nat) : Nat := fromTwo (ps.getD i 0) (ps.getD (i + 1) 0)

/-- The one-byte signed parameter at byte `i`. -/
def paramSigned (ps : List Byte) (i : Nat) : Int := (ps.getD i 0).toInt

/-- The two-byte signed parameter at byte `i`. -/
def paramSigned2 (ps : List Byte) (i : Nat) : Int := (BitVec.ofNat 16 (param2 ps i)).toInt

/-- The seat a seat parameter names, once it is known to lie in 0..3 (R185). -/
def paramSeat (ps : List Byte) : Fin 4 := Fin.ofNat 4 (param ps 0)

/-- The `count` words whose bytes begin at byte `i` (R173). -/
def paramWords (ps : List Byte) (i : Nat) : Nat → List Word
  | 0 => []
  | count + 1 => BitVec.ofNat 16 (param2 ps i) :: paramWords ps (i + 2) count

/-- The setpoints of a SEAT SETPOINT as sent: speed, steer, boom, bucket, flag byte (R177). -/
def paramSetpoints (ps : List Byte) : Setpoints :=
  ⟨paramSigned2 ps 1, paramSigned ps 3, paramSigned ps 4, paramSigned ps 5, flagOf (ps.getD 6 0)⟩

/-- Demands clamped to their ranges (R105, R169). -/
def clampSetpoints (p : Setpoints) : Setpoints :=
  ⟨clampSpeed p.speed, clampPercent p.steer, clampPercent p.boom, clampPercent p.bucket, p.stop⟩

/-! ### Bytes on the wires (R145, R176) -/

/-- The eight bits of a byte in the order they cross a wire, most significant first, true for 1 (R145,
R176). -/
def byteBits (b : Byte) : List Bool :=
  [b.getLsbD 7, b.getLsbD 6, b.getLsbD 5, b.getLsbD 4, b.getLsbD 3, b.getLsbD 2, b.getLsbD 1, b.getLsbD 0]

/-- A response as SDO carries it: its code, its data length, its data (R176, R178). -/
def Response.bytes (r : Response) : List Byte :=
  byteOf (responseByte r.code) :: byteOf r.data.length :: r.data

/-- What SDO carries over the clocks of `count` bytes: the response, then 0x00 for every further byte
(R176). -/
def Response.clockedOut (count : Nat) (r : Response) : List Byte :=
  (List.range count).map fun k => r.bytes.getD k 0

/-! ### Records (R180, R181) -/

/-- A notice record in six bytes (R180). -/
def noticeRecord (n : Notice) : List Byte :=
  [byteOf (noticeByte n.kind),
   match n.seat with
   | none => 0xFF
   | some i => byteOf i.val,
   byteOf n.station, byteOf (reasonByte n.reason)] ++ twoBytes n.value

/-- The empty marker: kind 0x00 and every other byte 0 (R180). -/
def emptyMarker : List Byte := [0, 0, 0, 0, 0, 0]

/-- A time since a stored moment in ms, held at 65535, and 65535 when there is none (R78, R90). -/
def ageOf (now : Nat) : Option Nat → Nat
  | none => 65535
  | some t => min (now - t) 65535

/-- Seat record as SEAT READ returns it (R90, R181). -/
def seatRecord (now : Nat) (s : Seat) : List Byte :=
  [byteOf (seatByte s.state), byteOf s.machine] ++ twoBytes s.epoch ++ [byteOf s.limit]
    ++ twoBytes (zoneNumber s.lastAdmitted.zone)
    ++ [rightsByte s.lastAdmitted.rights, byteOf s.lastAdmitted.limit,
        byteOf (match s.proposal with | none => 0 | some p => p.asker), byteOf (s.transfer.getD 0)]
    ++ twoBytes s.area.length ++ twoBytes (ageOf now s.setpointAt) ++ [byteOf s.sequence]

/-- Fleet View record as FLEET READ returns it (R117, R181). -/
def fleetRecordBytes (now : Nat) (r : FleetRecord) : List Byte :=
  [byteOf r.machine, byteOf (bindingByte r.state), byteOf r.controller] ++ twoBytes r.epoch
    ++ twoBytes (zoneNumber r.zone) ++ [byteOf r.ceiling, flagByte r.halted, byteOf r.transfer]
    ++ twoBytes (ageOf now (some r.heardAt))

/-- A zone entry as ZONE READ returns it (R121, R179). -/
def zoneEntryBytes : ZoneEntry → List Byte
  | .absent => [0, 0, 0, 0]
  | .leaf r l g => [1, rightsByte r, byteOf l, flagByte g]
  | .branch c => [2, byteOf c, 0, 0]

end Sys2Proof.Machine
end

