-- ==== Sys2Proof/Machine/Flags.lean ====
section
/-!
DEFINITION. Machine/Flags.lean: the flag bytes a host reads: the five flags of the status record
(R189, R190, R181) and the flags of SLOT READ (R181).
-/
namespace Sys2Proof.Machine

/-- Bits of a flags byte, bit 0 first. -/
def bitsByte : List Bool → Nat
  | [] => 0
  | b :: rest => (if b then 1 else 0) + 2 * bitsByte rest

/-- The role of a station: which blocks it has (R199). -/
def State.role (s : State) : Role :=
  match s.blocks with
  | .unset => .unset
  | .chair _ => .chair
  | .machine _ => .machine

/-- The seize-armed record; only a CHAIR has one (R86). -/
def State.armed (s : State) : Option Nat :=
  match s.blocks with
  | .chair c => c.armed
  | _ => none

/-- The flags of the status record: receive overrun, notice overrun, write collision, clash seen,
seize armed in bits 0..4 (R181, R189). -/
def State.statusFlags (s : State) : Nat :=
  bitsByte [s.line.overrun, s.notices.overrun, s.port.writeCollision, s.port.clashSeen, s.armed.isSome]

/-- The engine state code; 0 on a MACHINE and while the role is unset (R175, R189). -/
def State.engineCode (s : State) : Nat :=
  match s.blocks with
  | .chair c => engineByte c.engine.active
  | _ => 0

/-- The status record (R181, R189). -/
def State.statusRecord (s : State) : List Byte :=
  [byteOf (stationByte s.station), byteOf (roleByte s.role), byteOf s.config.station,
   byteOf s.config.prescaler, byteOf s.config.select, byteOf s.statusFlags,
   byteOf s.notices.queue.length, byteOf s.engineCode]

/-- The flags a STATUS READ clears once they are copied into its response: receive overrun, write
collision and clash seen (R190). -/
def State.clearStatusFlags (s : State) : State :=
  { s with
    line := { s.line with overrun := false }
    port := { s.port with writeCollision := false, clashSeen := false } }

/-- The flags byte of SLOT READ (R181). -/
def slotFlags (g : DriveGate) : Nat :=
  bitsByte [g.driveEnable, g.halted, g.stopActive, g.ramp.isSome, g.held.demand.stop,
    g.held.sequence.isSome]

/-- The setpoint slot as SLOT READ returns it (R78, R181). -/
def slotRecord (now : Nat) (g : DriveGate) : List Byte :=
  signedBytes g.outputs.speed ++ [signedByte g.outputs.steer, signedByte g.outputs.boom,
      signedByte g.outputs.bucket]
    ++ signedBytes g.held.demand.speed ++ [byteOf (g.held.sequence.getD 0)]
    ++ twoBytes (ageOf now g.held.acceptedAt)
    ++ [byteOf g.ceiling, byteOf g.reverse, byteOf (slotFlags g)]
    ++ match g.ramp with
       | none => [0, 0]
       | some r => [byteOf r.value, byteOf r.expiries]

end Sys2Proof.Machine
end

