-- ==== Sys2Proof/Machine/Ops.lean ====
section
/-!
DEFINITION. Machine/Ops.lean: the operations every block shares: the addressed buffers, the notice
queue, the CRC, the Time Base, the host transaction with its shared checks, the pins and the views of
a station by its role.
-/
namespace Sys2Proof.Machine

/-! ### Addressed buffers (log 21) -/

section Stores
variable {α : Type} [DecidableEq α]

/-- What address `a` reads as; an unlisted address reads as `d`. -/
def storeRead (d : α) : Store α → Nat → α
  | [], _ => d
  | (k, v) :: rest, a => if k = a then v else storeRead d rest a

/-- `v` written at address `a`; writing `d` removes the entry, so equal buffers are equal lists. -/
def storeWrite (d : α) (a : Nat) (v : α) : Store α → Store α
  | [] => if v = d then [] else [(a, v)]
  | (k, w) :: rest =>
    if a < k then if v = d then (k, w) :: rest else (a, v) :: (k, w) :: rest
    else if a = k then if v = d then rest else (a, v) :: rest
    else (k, w) :: storeWrite d a v rest

/-- The values written at `a`, `a + 1` and so on. -/
def storeWriteList (d : α) (a : Nat) : List α → Store α → Store α
  | [], m => m
  | v :: rest, m => storeWriteList d (a + 1) rest (storeWrite d a v m)

/-- Every address of the buffer lies above `lo`, they rise strictly, and no entry equals `d`. -/
def storeAbove (d : α) : Option Nat → Store α → Bool
  | _, [] => true
  | lo, (k, v) :: rest =>
    decide (∀ l ∈ lo, l < k) && decide (v ≠ d) && storeAbove d (some k) rest

/-- The canonical form: addresses strictly rising, no entry equal to what an unlisted one reads. -/
def storeWf (d : α) (m : Store α) : Bool := storeAbove d none m

end Stores

/-- Word `i` of a context area; an unlisted word is 0 (R88). -/
def areaWord (a : ContextArea) (i : Nat) : Word := storeRead 0 a.words i

/-- The `count` words of an area from word `i` on. -/
def areaWordsFrom (a : ContextArea) (i : Nat) : Nat → List Word
  | 0 => []
  | count + 1 => areaWord a i :: areaWordsFrom a (i + 1) count

/-- Words stored in an area from word `i` on, its length kept. -/
def areaStore (i : Nat) (words : List Word) (a : ContextArea) : ContextArea :=
  { a with words := storeWriteList 0 i words a.words }

/-- The words of a segment that lie below the context length (R45, R54). -/
def wordsBelow (length index : Nat) (words : List Word) : List Word := words.take (length - index)

/-! ### The context sum and the frame check (R34, R145) -/

/-- One bit fed to the CRC register: generator x^16 + x^12 + x^5 + 1, not reflected. -/
def crcShift (r : Word) : Word := if r.msb then (r <<< 1) ^^^ 0x1021 else r <<< 1

/-- One byte fed to the CRC register, most significant bit first. -/
def crcByte (r : Word) (b : Byte) : Word :=
  let r0 := r ^^^ (b.zeroExtend 16 <<< 8)
  crcShift (crcShift (crcShift (crcShift (crcShift (crcShift (crcShift (crcShift r0)))))))

/-- Bytes fed in order. -/
def crcBytes (r : Word) (bs : List Byte) : Word := bs.foldl crcByte r

/-- Words fed in order, each high byte first (R34). -/
def crcWords (r : Word) (ws : List Word) : Word := ws.foldl (fun r w => crcBytes r (wordBytes w)) r

/-- The initial value of the register: all ones (R34). -/
def crcInit : Word := 0xFFFF

/-- The context sum over words 0 to length − 1 of an area (R34). -/
def contextSum (a : ContextArea) (length : Nat) : Word := crcWords crcInit (areaWordsFrom a 0 length)

/-! ### The Time Base (R201; log 2, log 3) -/

/-- One millisecond of the Time Base. -/
def State.tick (s : State) : State := { s with time := s.time + 1 }

/-- The Time Base has reached a deadline whose expiry is taken (log 3). -/
def State.reach (deadline : Nat) (s : State) : State := { s with time := max s.time deadline }

/-! ### Notices (R191 to R193) -/

/-- A notice raised: it joins the queue, or it is lost, the flag set and the clear step closed. -/
def State.raise (n : Notice) (s : State) : State :=
  if s.notices.queue.length < Config.noticeDepth then
    { s with notices := { s.notices with queue := s.notices.queue ++ [n] } }
  else { s with notices := { s.notices with overrun := true, clearStep := false } }

/-! ### Host transactions (R176, R183 to R188) -/

/-- The availability of a command by station state and role (R186). -/
structure Availability where
  inSetup : Bool
  inListen : Bool
  inOnline : Bool
  role : Option Role
  deriving DecidableEq, Repr

/-- Available in the station state (R186). -/
def Availability.inState (a : Availability) : StationState → Bool
  | .setup => a.inSetup
  | .listen => a.inListen
  | .online => a.inOnline

/-- Available in the role; none is "any" (R186). -/
def Availability.inRole (a : Availability) (r : Role) : Bool :=
  match a.role with
  | none => true
  | some r' => decide (r = r')

/-- The setup commands and START. -/
def setupOnly : Availability := ⟨true, false, false, none⟩
/-- The commands of a CHAIR, ONLINE only. -/
def chairOnline : Availability := ⟨false, false, true, some .chair⟩
/-- POSITION and SLOT READ. -/
def machineListening : Availability := ⟨false, true, true, some .machine⟩
/-- LOCAL HALT, LOCAL RESUME and CLEAR BINDING. -/
def machineOnline : Availability := ⟨false, false, true, some .machine⟩
/-- The zone commands, STATUS READ, NOTICE READ and SOFT RESET. -/
def everywhere : Availability := ⟨true, true, true, none⟩

/-- The response of the command taken becomes the pending response; one that is neither OK nor
ADJUSTED carries no data (R176, R183). -/
def State.respond (code : ResponseCode) (data : List Byte) (s : State) : State :=
  { s with
    port := { s.port with
      response := ⟨code, if code = .ok ∨ code = .adjusted then data else []⟩ } }

/-- The seize-armed record removed (R108, R188). -/
def disarm : Blocks → Blocks
  | .chair c => .chair { c with armed := none }
  | b => b

/-- A command is taken, refused or not: the transaction ends, the seize-armed record goes (R188) and
the clear step of the notice-overrun flag closes (R194). -/
def State.commandTaken (s : State) : State :=
  { s with
    port := { s.port with transaction := none }
    notices := { s.notices with clearStep := false }
    blocks := disarm s.blocks }

/-- The shared checks of R185 after the code check: length, station state, role, seat index, in
that order; none when all pass. -/
def sharedCheck (a : Availability) (long : Bool) (seat : Option Nat) (s : State) :
    Option ResponseCode :=
  if !long then some .badParameter
  else if !a.inState s.station then some .wrongState
  else if !a.inRole s.role then some .wrongRole
  else
    match seat with
    | none => none
    | some i => if i ≤ 3 then none else some .badParameter

/-- A block's answer to a command: the state it leaves, the response code and the data. -/
abbrev Answer := State × ResponseCode × List Byte

/-- The response placed in the pending response (R183). -/
def finish (a : Answer) : State := a.1.respond a.2.1 a.2.2

/-- A host command taken (R183): the shared checks, then the owning block, then the response. -/
def hostCommand (a : Availability) (long : Bool) (seat : Option Nat) (body : State → Answer)
    (s : State) : State :=
  match sharedCheck a long seat s with
  | some code => s.commandTaken.respond code []
  | none => finish (body s.commandTaken)

/-- An answer with no data. -/
def answer (code : ResponseCode) (s : State) : Answer := (s, code, [])

/-- ADJUSTED when a value was clamped or rounded, else OK (R187, R202). -/
def okOr (adjusted : Bool) : ResponseCode := if adjusted then .adjusted else .ok

/-! ### Views by role -/

/-- The station with a machine's blocks put back. -/
def MachineView.close (v : MachineView) : State :=
  { v.toState with blocks := .machine v.toMachineBlocks }

/-- The station with a chair's blocks put back. -/
def ChairView.close (v : ChairView) : State :=
  { v.toState with blocks := .chair v.toChairBlocks }

/-- A MACHINE's rule applied; a station of another role has no such block. -/
def onMachine (f : MachineView → MachineView) (s : State) : State :=
  match s.blocks with
  | .machine m => (f ⟨s, m⟩).close
  | _ => s

/-- A CHAIR's rule applied; a station of another role has no such block. -/
def onChair (f : ChairView → ChairView) (s : State) : State :=
  match s.blocks with
  | .chair c => (f ⟨s, c⟩).close
  | _ => s

/-- A MACHINE's answer to a host command. -/
abbrev MachineAnswer := MachineView × ResponseCode × List Byte

/-- A CHAIR's answer to a host command. -/
abbrev ChairAnswer := ChairView × ResponseCode × List Byte

/-- A machine's answer as the station's. -/
def closeMachine (a : MachineAnswer) : Answer := (a.1.close, a.2)

/-- A chair's answer as the station's. -/
def closeChair (a : ChairAnswer) : Answer := (a.1.close, a.2)

/-- A MACHINE's rule for a host command. -/
def answerMachine (f : MachineView → MachineAnswer) (s : State) : Answer :=
  match s.blocks with
  | .machine m => closeMachine (f ⟨s, m⟩)
  | _ => answer .wrongRole s

/-- A CHAIR's rule for a host command. -/
def answerChair (f : ChairView → ChairAnswer) (s : State) : Answer :=
  match s.blocks with
  | .chair c => closeChair (f ⟨s, c⟩)
  | _ => answer .wrongRole s

/-- An operation of a shared block applied to a machine's station. -/
def MachineView.lift (f : State → State) (v : MachineView) : MachineView :=
  { v with toState := f v.toState }

/-- An operation of a shared block applied to a chair's station. -/
def ChairView.lift (f : State → State) (v : ChairView) : ChairView :=
  { v with toState := f v.toState }

/-! ### The seats of a chair -/

/-- Seat `i` of the Seat Table. -/
def Seats.get (t : Seats) : Fin 4 → Seat
  | 0 => t.seat0
  | 1 => t.seat1
  | 2 => t.seat2
  | 3 => t.seat3

/-- Seat `i` replaced. -/
def Seats.set (t : Seats) (i : Fin 4) (s : Seat) : Seats :=
  match i with
  | 0 => { t with seat0 := s }
  | 1 => { t with seat1 := s }
  | 2 => { t with seat2 := s }
  | 3 => { t with seat3 := s }

/-- The seat indices in order (R106, R111, R192). -/
def seatOrder : List (Fin 4) := [0, 1, 2, 3]

/-! ### Pins (00_scope.md) -/

/-- ATTN: asserted while the notice queue holds a notice (R196). -/
def State.attn (s : State) : Bool := !s.notices.queue.isEmpty

/-- DEN: the drive-enable of a MACHINE; deasserted on any other station (R63, R83). -/
def State.den (s : State) : Bool :=
  match s.blocks with
  | .machine m => m.gate.driveEnable
  | _ => false

/-- The strobe output is active: never on a CHAIR or while the role is unset (R63, R84, R85). -/
def State.strobing (s : State) : Bool :=
  match s.blocks with
  | .machine m => m.gate.strobeActive
  | _ => false

/-- STB's level, true for high, by the configured polarity (R85). -/
def State.stb (s : State) : Bool :=
  match s.config.polarity with
  | .activeHigh => s.strobing
  | .activeLow => !s.strobing

/-- SDO over the clocks of a transaction of `count` bytes: the bits of the pending response, built when the
command before was taken; what arrives on SDI does not change them (R176, R183). -/
def State.sdo (count : Nat) (s : State) : List Bool :=
  (s.port.response.clockedOut count).flatMap byteBits

/-- LTE: asserted while a frame is being sent (R146). -/
def State.lte (s : State) : Bool := decide (s.line.transmitter = .sending)

end Sys2Proof.Machine
end

