-- ==== Sys2Proof/Machine/Gate.lean ====
section
/-!
DEFINITION. Machine/Gate.lean: the Drive Gate: the five stages of the ceiling (R65 to R71), the
setpoint slot and its clamps (R73 to R77), the ramp (R68, R69), the halt latch (R79, R80), drive-enable
(R83) and the strobe (R84).
-/
namespace Sys2Proof.Machine

/-! ### The effective ceiling (R66 to R71) -/

/-- Stage 1: the machine zone limit Z (R66). -/
def zoneLimit (b : Binding) : Nat :=
  if b.zoneResult.fault || !(rightsInter b.admittedRights b.zoneResult.rights).drive then 0
  else b.zoneResult.limit

/-- Stage 1: B, the lesser of the admitted limit, the context cap and Z (R66). -/
def baseCeiling (b : Binding) : Nat := min (min b.admittedLimit b.contextCap) (zoneLimit b)

/-- Stage 2: Bd = ⌊B × (L − m) / L⌋ (R67). -/
def degraded (missLimit : Nat) (b : Binding) : Nat :=
  baseCeiling b * (missLimit - b.misses) / missLimit

/-- Stage 3: R = min(C0, max(K, C0 − S × n)) (R68). K is not negative, so a difference below zero
counts as zero. -/
def rampValue (start step floor expiries : Nat) : Nat := min start (max floor (start - step * expiries))

/-- The binding state holds the ceiling at 0 (R70). -/
def standing : BindingState → Bool
  | .unbound | .orphaned => true
  | _ => false

/-- Stage 4: the effective ceiling (R70). -/
def effectiveCeiling (c : Configuration) (b : Binding) (g : DriveGate) : Nat :=
  if standing b.state || g.halted || g.stopActive
      || !(rightsInter b.admittedRights b.zoneResult.rights).drive then 0
  else
    match b.state, g.ramp with
    | .transfer _, some r => min (degraded c.missLimit b) r.value
    | _, _ => degraded c.missLimit b

/-- Stage 5: Er = ⌊E × Q / 8⌋ (R71). -/
def reverseCeiling (c : Configuration) (ceiling : Nat) : Nat := ceiling * c.reverseRatio / 8

/-! ### The setpoint slot (R75, R76) -/

/-- The speed output (R75). -/
def speedOut (d : Setpoints) (ceiling reverse : Nat) : Int :=
  if d.stop then 0
  else if 0 ≤ d.speed then min d.speed ceiling
  else -(min (-d.speed) (reverse : Int))

/-- A stop condition: the halt latch, the stop input, or combined rights without DRIVE (R76). -/
def stopCondition (g : DriveGate) : Bool := g.halted || g.stopActive || !g.combined.drive

/-- The boom output (R76). -/
def boomOut (g : DriveGate) : Int :=
  if stopCondition g || !(g.combined.load || g.combined.tip) then 0 else g.held.demand.boom

/-- The bucket output: crowd above 0 needs LOAD, dump below 0 needs TIP (R76). -/
def bucketOut (g : DriveGate) : Int :=
  if stopCondition g then 0
  else if 0 < g.held.demand.bucket then if g.combined.load then g.held.demand.bucket else 0
  else if g.held.demand.bucket < 0 then if g.combined.tip then g.held.demand.bucket else 0
  else 0

/-- The outputs clamped from the held demand (R75, R76). -/
def clampedOutputs (g : DriveGate) : Outputs :=
  ⟨speedOut g.held.demand g.ceiling g.reverse, g.held.demand.steer, boomOut g, bucketOut g⟩

/-! ### Recomputation (R65, R83, R84) -/

/-- The ramp value from the ramp's own fields (R68). -/
def Ramp.refresh (c : Configuration) (r : Ramp) : Ramp :=
  { r with value := rampValue r.start c.rampStep c.crawlFloor r.expiries }

/-- The gate with its ramp value, combined rights and ceilings recomputed (R65, first part). -/
def DriveGate.ceilings (c : Configuration) (b : Binding) (g : DriveGate) : DriveGate :=
  let g1 := { g with ramp := g.ramp.map (Ramp.refresh c) }
  { g1 with
    combined := rightsInter b.admittedRights b.zoneResult.rights
    ceiling := effectiveCeiling c b g1
    reverse := reverseCeiling c (effectiveCeiling c b g1) }

/-- The slot re-clamped, drive-enable set from the new E, and the strobe output from its timer and
the halt latch (R65, R83, R84). -/
def DriveGate.drive (g : DriveGate) : DriveGate :=
  { g with
    outputs := clampedOutputs g
    driveEnable := decide (0 < g.ceiling)
    strobeActive := g.strobeTimer.isSome || g.halted }

/-- The Drive Gate recomputed from the binding record (R65). -/
def DriveGate.recompute (c : Configuration) (b : Binding) (g : DriveGate) : DriveGate :=
  (g.ceilings c b).drive

/-- The Drive Gate of a machine recomputed in the event that changed an input of it (R65). -/
def MachineView.recompute (v : MachineView) : MachineView :=
  { v with gate := v.gate.recompute v.config v.binding }

/-! ### The gate's events -/

/-- The held demand replaced by the zero demand (R77). -/
def DriveGate.zeroDemand (g : DriveGate) : DriveGate := { g with held := HeldDemand.zero }

/-- A strobe pulse of (w + 1) × 10 ms started, anew if one runs (R84). -/
def DriveGate.pulse (c : Configuration) (now : Nat) (g : DriveGate) : DriveGate :=
  { g with strobeTimer := some (now + (c.strobeWidth + 1) * 10) }

/-- The ramp created from C0 (R68). -/
def DriveGate.startRamp (c : Configuration) (now start : Nat) (g : DriveGate) : DriveGate :=
  { g with ramp := some ⟨start, 0, start, now + c.rampInterval⟩ }

/-- The ramp ended (R68). -/
def DriveGate.endRamp (g : DriveGate) : DriveGate := { g with ramp := none }

/-- The HALT notice (R79, R80, R180). -/
def haltNotice (source : Nat) (set : Bool) : Notice :=
  ⟨.halt, none, source, .none, if set then 1 else 0⟩

/-- The halt latch set by a HALT from `source`, or 0 for LOCAL HALT (R79). -/
def MachineView.setLatch (source : Nat) (v : MachineView) : MachineView :=
  if v.gate.halted then v
  else
    let v1 := { v with gate := { v.gate with halted := true } }
    v1.recompute.lift (State.raise (haltNotice source true))

/-- The halt latch cleared by a RESUME from `source`, or 0 for LOCAL RESUME (R80). -/
def MachineView.clearLatch (source : Nat) (v : MachineView) : MachineView :=
  if v.gate.halted then
    let v1 := { v with gate := { v.gate with halted := false } }
    v1.recompute.lift (State.raise (haltNotice source false))
  else v

/-- A level of STOP_N taken (R82); the notice is raised in ONLINE. -/
def MachineView.takeStop (active : Bool) (v : MachineView) : MachineView :=
  if v.gate.stopActive = active then v
  else
    let v1 := { v with gate := { v.gate with stopActive := active } }
    if v.station = .online then
      v1.recompute.lift (State.raise ⟨.stopInput, none, 0, .none, if active then 1 else 0⟩)
    else v1.recompute

/-- A DRIVE accepted into the slot: the held demand replaced whole, the outputs clamped from it
(R74). -/
def MachineView.acceptDemand (sequence : Nat) (d : Setpoints) (v : MachineView) : MachineView :=
  let v1 := { v with gate := { v.gate with held := ⟨d, some sequence, some v.time⟩ } }
  v1.recompute

end Sys2Proof.Machine
end

