-- ==== Sys2Proof/Machine/Frames.lean ====
section
/-!
DEFINITION. Machine/Frames.lean: the Fleet Line frames of the Frame Catalogue: kind codes and access
classes (R147, R163), bodies as sent (R164), the whole frame with its check (R145), and the judgement
of a complete frame at reception, field by field (R157, R162, R165 to R172).
-/
namespace Sys2Proof.Machine

/-! ### Kinds -/

/-- Kind codes (R163). -/
def kindCode : Body → Nat
  | .beacon .. => 0x01
  | .drive .. => 0x02
  | .ask .. => 0x03
  | .grant .. => 0x04
  | .refuse .. => 0x05
  | .propose .. => 0x06
  | .yield .. => 0x07
  | .decline .. => 0x08
  | .openTransfer .. => 0x09
  | .segment .. => 0x0A
  | .hold .. => 0x0B
  | .go .. => 0x0C
  | .stop .. => 0x0D
  | .sum .. => 0x0E
  | .accept .. => 0x0F
  | .lag .. => 0x10
  | .abandon .. => 0x11
  | .commit .. => 0x12
  | .abort .. => 0x13
  | .release .. => 0x14
  | .seize .. => 0x15
  | .admission .. => 0x16
  | .halt => 0x17
  | .resume .. => 0x18

/-- A HALT frame. -/
def isHalt (f : Frame) : Bool :=
  match f.body with
  | .halt => true
  | _ => false

/-- A DRIVE frame. -/
def isDrive (f : Frame) : Bool :=
  match f.body with
  | .drive .. => true
  | _ => false

/-- A SEGMENT frame. -/
def isSegment (f : Frame) : Bool :=
  match f.body with
  | .segment .. => true
  | _ => false

/-- A SEGMENT frame of a transfer. -/
def isSegmentOf (transfer : Nat) (f : Frame) : Bool :=
  match f.body with
  | .segment t .. => decide (t = transfer)
  | _ => false

/-- The quiet time in bit times a head frame of the kind needs, by its access class (R147): 8 for
HALT, 16 for DRIVE, SEGMENT, HOLD, GO and STOP, 24 for every other kind. -/
def quietNeed (f : Frame) : Nat :=
  match f.body with
  | .halt => 8
  | .drive .. | .segment .. | .hold .. | .go .. | .stop .. => 16
  | _ => 24

/-! ### As sent -/

/-- Terms as a body carries them (R164). -/
def termsBytes (t : Terms) : List Byte :=
  twoBytes (zoneNumber t.zone) ++ [rightsByte t.rights, byteOf t.limit]

/-- The body's bytes in the order sent (R164). -/
def bodyBytes : Body → List Byte
  | .beacon st c e z lim h t =>
    [byteOf (bindingByte st), byteOf c] ++ twoBytes e ++ twoBytes (zoneNumber z)
      ++ [byteOf lim, flagByte h, byteOf t]
  | .drive e q d =>
    twoBytes e ++ [byteOf q] ++ signedBytes d.speed
      ++ [signedByte d.steer, signedByte d.boom, signedByte d.bucket, flagByte d.stop]
  | .ask t => termsBytes t
  | .grant e z => twoBytes e ++ twoBytes (zoneNumber z)
  | .refuse r => [byteOf (reasonByte r)]
  | .propose a e => byteOf a :: twoBytes e
  | .yield e l => twoBytes e ++ twoBytes l
  | .decline e => twoBytes e
  | .openTransfer t s r l => [byteOf t, byteOf s, byteOf r] ++ twoBytes l
  | .segment t b i ws =>
    [byteOf t, byteOf b] ++ twoBytes i ++ byteOf ws.length :: ws.flatMap wordBytes
  | .hold t b => [byteOf t, byteOf b]
  | .go t b j => [byteOf t, byteOf b] ++ twoBytes j
  | .stop t b => [byteOf t, byteOf b]
  | .sum t l w => byteOf t :: (twoBytes l ++ wordBytes w)
  | .accept t w => byteOf t :: wordBytes w
  | .lag t w => byteOf t :: twoBytes w
  | .abandon t r => [byteOf t, byteOf (reasonByte r)]
  | .commit c e t => byteOf c :: (twoBytes e ++ [byteOf t])
  | .abort t r c e => [byteOf t, byteOf (reasonByte r), byteOf c] ++ twoBytes e
  | .release e => twoBytes e
  | .seize t => termsBytes t
  | .admission e t => twoBytes e ++ termsBytes t
  | .halt => []
  | .resume e => twoBytes e

/-- The bytes the check covers: kind, source, target, body length and body (R145). -/
def coveredBytes (f : Frame) : List Byte :=
  [byteOf (kindCode f.body), byteOf f.source, byteOf f.target, byteOf (bodyBytes f.body).length]
    ++ bodyBytes f.body

/-- The frame as sent: the start byte, the covered bytes and the check, high byte first (R145). -/
def frameBytes (f : Frame) : List Byte :=
  0xC3 :: (coveredBytes f ++ wordBytes (crcBytes crcInit (coveredBytes f)))

/-- The level of the line at rest: high (R145). -/
abbrev restLevel : Bool := true

/-- The ten levels of a byte on the line, one a bit time: the start bit low, the data bits, the stop bit high
(R145). -/
def byteLevels (b : Byte) : List Bool := false :: (byteBits b ++ [true])

/-- The levels of a frame on the line, its bytes with no gap between them (R145). -/
def frameLevels (f : Frame) : List Bool := (frameBytes f).flatMap byteLevels

/-- How long a frame lasts: (7 + b) × 10 bit times for a body of b bytes (R145). -/
def frameBitTimes (f : Frame) : Nat := (7 + (bodyBytes f.body).length) * 10

/-! ### At reception (R162) -/

/-- A number in lo..hi, or the frame is discarded. -/
def within (lo hi n : Nat) : Option Nat := if lo ≤ n ∧ n ≤ hi then some n else none

/-- A chair station 1..60. -/
def chairField (b : Byte) : Option Nat := within 1 60 b.toNat

/-- A station or none 0..60. -/
def stationField (b : Byte) : Option Nat := within 0 60 b.toNat

/-- A transfer number or a burst number 1..255. -/
def numberField (b : Byte) : Option Nat := within 1 255 b.toNat

/-- A word index 0..383. -/
def indexField (hi lo : Byte) : Option Nat := within 0 383 (fromTwo hi lo)

/-- A context length 8..384. -/
def lengthField (hi lo : Byte) : Option Nat := within 8 384 (fromTwo hi lo)

/-- A chair's terms: zone code above 8191 discards, rights bits 4..7 cleared, limit 251..255 taken as
250 (R168). -/
def termsField (z1 z0 r l : Byte) : Option Terms :=
  (zoneOf (fromTwo z1 z0)).map fun z => ⟨z, rightsOf r, clampLimit l.toNat⟩

/-- BEACON (R165). -/
def readBeacon : List Byte → Option Body
  | [st, c, e1, e0, z1, z0, lim, fl, t] => do
    let st ← bindingOf st.toNat
    let c ← stationField c
    let z ← zoneOf (fromTwo z1 z0)
    return .beacon st c (fromTwo e1 e0) z (clampLimit lim.toNat) (flagOf fl) t.toNat
  | _ => none

/-- DRIVE: demands clamped, never discarded for one (R169). -/
def readDrive : List Byte → Option Body
  | [e1, e0, q, s1, s0, st, bo, bu, fl] =>
    some (.drive (fromTwo e1 e0) q.toNat
      ⟨clampSpeed (wordFrom s1 s0).toInt, clampPercent st.toInt, clampPercent bo.toInt,
        clampPercent bu.toInt, flagOf fl⟩)
  | _ => none

/-- ASK and SEIZE (R168). -/
def readTerms : List Byte → Option Terms
  | [z1, z0, r, l] => termsField z1 z0 r l
  | _ => none

/-- GRANT (R166). -/
def readGrant : List Byte → Option Body
  | [e1, e0, z1, z0] => (zoneOf (fromTwo z1 z0)).map fun z => .grant (fromTwo e1 e0) z
  | _ => none

/-- REFUSE (R166, R174). -/
def readRefuse : List Byte → Option Body
  | [r] => (refuseReasonOf r.toNat).map .refuse
  | _ => none

/-- PROPOSE (R166). -/
def readPropose : List Byte → Option Body
  | [a, e1, e0] => (chairField a).map fun a => .propose a (fromTwo e1 e0)
  | _ => none

/-- YIELD: a length outside 8..384 discards (R170). -/
def readYield : List Byte → Option Body
  | [e1, e0, l1, l0] => (lengthField l1 l0).map fun l => .yield (fromTwo e1 e0) l
  | _ => none

/-- A body of one epoch: DECLINE, RELEASE, RESUME (R170). -/
def readEpoch : List Byte → Option Nat
  | [e1, e0] => some (fromTwo e1 e0)
  | _ => none

/-- OPEN: a sender equal to the receiver discards (R167). -/
def readOpen : List Byte → Option Body
  | [t, s, r, l1, l0] => do
    let t ← numberField t
    let s ← chairField s
    let r ← chairField r
    let l ← lengthField l1 l0
    if s = r then none else return .openTransfer t s r l
  | _ => none

/-- Words in their bytes, high byte first. -/
def readWords : List Byte → List Word
  | h :: l :: rest => wordFrom h l :: readWords rest
  | _ => []

/-- SEGMENT (R171). -/
def readSegment : List Byte → Option Body
  | t :: b :: i1 :: i0 :: n :: rest => do
    let t ← numberField t
    let b ← numberField b
    let i ← indexField i1 i0
    let n ← within 1 8 n.toNat
    if i + n ≤ 384 ∧ rest.length = 2 * n then return .segment t b i (readWords rest) else none
  | _ => none

/-- A transfer number and a burst number: HOLD, STOP (R172). -/
def readPair : List Byte → Option (Nat × Nat)
  | [t, b] => do
    let t ← numberField t
    let b ← numberField b
    return (t, b)
  | _ => none

/-- GO (R172). -/
def readGo : List Byte → Option Body
  | [t, b, j1, j0] => do
    let t ← numberField t
    let b ← numberField b
    let j ← indexField j1 j0
    return .go t b j
  | _ => none

/-- SUM: a length 0..384 (R172). -/
def readSum : List Byte → Option Body
  | [t, l1, l0, s1, s0] => do
    let t ← numberField t
    let l ← within 0 384 (fromTwo l1 l0)
    return .sum t l (wordFrom s1 s0)
  | _ => none

/-- ACCEPT (R172). -/
def readAccept : List Byte → Option Body
  | [t, s1, s0] => (numberField t).map fun t => .accept t (wordFrom s1 s0)
  | _ => none

/-- LAG (R172). -/
def readLag : List Byte → Option Body
  | [t, w1, w0] => do
    let t ← numberField t
    let w ← indexField w1 w0
    return .lag t w
  | _ => none

/-- ABANDON (R172, R174). -/
def readAbandon : List Byte → Option Body
  | [t, r] => do
    let t ← numberField t
    let r ← abortReasonOf r.toNat
    return .abandon t r
  | _ => none

/-- COMMIT (R167). -/
def readCommit : List Byte → Option Body
  | [c, e1, e0, t] => do
    let c ← chairField c
    let t ← numberField t
    return .commit c (fromTwo e1 e0) t
  | _ => none

/-- ABORT (R167, R174). -/
def readAbort : List Byte → Option Body
  | [t, r, c, e1, e0] => do
    let t ← numberField t
    let r ← abortReasonOf r.toNat
    let c ← stationField c
    return .abort t r c (fromTwo e1 e0)
  | _ => none

/-- ADMIT (R168). -/
def readAdmit : List Byte → Option Body
  | [e1, e0, z1, z0, r, l] => (termsField z1 z0 r l).map fun t => .admission (fromTwo e1 e0) t
  | _ => none

/-- HALT: an empty body (R170). -/
def readHalt : List Byte → Option Body
  | [] => some .halt
  | _ => none

/-- A body by its kind code: none for an unknown code (R163), for a length its kind does not allow,
and for a field in the discard case of its type (R162). -/
def readBody (kind : Nat) (body : List Byte) : Option Body :=
  match kind with
  | 0x01 => readBeacon body
  | 0x02 => readDrive body
  | 0x03 => (readTerms body).map .ask
  | 0x04 => readGrant body
  | 0x05 => readRefuse body
  | 0x06 => readPropose body
  | 0x07 => readYield body
  | 0x08 => (readEpoch body).map .decline
  | 0x09 => readOpen body
  | 0x0A => readSegment body
  | 0x0B => (readPair body).map fun p => .hold p.1 p.2
  | 0x0C => readGo body
  | 0x0D => (readPair body).map fun p => .stop p.1 p.2
  | 0x0E => readSum body
  | 0x0F => readAccept body
  | 0x10 => readLag body
  | 0x11 => readAbandon body
  | 0x12 => readCommit body
  | 0x13 => readAbort body
  | 0x14 => (readEpoch body).map .release
  | 0x15 => (readTerms body).map .seize
  | 0x16 => readAdmit body
  | 0x17 => readHalt body
  | 0x18 => (readEpoch body).map .resume
  | _ => none

/-- A station that may be a frame's source: 1..60 (R157). -/
def sourceOk (n : Nat) : Bool := decide (1 ≤ n ∧ n ≤ Config.stationMost)

/-- A station that may be a frame's target: 1..60 or 63 (R157). -/
def targetOk (n : Nat) : Bool := sourceOk n || n == Config.allStations

/-- The frame in the covered bytes, its envelope and its fields judged (R157, R162). -/
def readCovered : List Byte → Option Frame
  | kind :: source :: target :: _ :: body =>
    if sourceOk source.toNat && targetOk target.toNat then
      (readBody kind.toNat body).map fun b => ⟨source.toNat, target.toNat, b⟩
    else none
  | _ => none

/-- A complete assembly judged by R156, R157 and R162: the frame with its clamped values, or none
when it is discarded without trace. -/
def judgeFrame (bytes : List Byte) : Option Frame :=
  match bytes with
  | first :: kind :: source :: target :: len :: rest =>
    if first.toNat = 0xC3 ∧ len.toNat ≤ 40 ∧ rest.length = len.toNat + 2 then
      let covered := kind :: source :: target :: len :: rest.take len.toNat
      if wordBytes (crcBytes crcInit covered) = rest.drop len.toNat then readCovered covered else none
    else none
  | _ => none

end Sys2Proof.Machine
end

