-- ==== Sys2Proof/Machine/Hearing.lean ====
section
/-!
DEFINITION. Machine/Hearing.lean: what the Line Controller makes of the levels on LRX, one a bit time: the
quiet count (R142, R146) and the receive assembly, from the low level that begins it to the byte that
completes or discards it (R145, R156).
-/
namespace Sys2Proof.Machine

/-- The quiet count an assembly begins after, in bit times (R156). -/
abbrev assemblyQuiet : Nat := 8

/-- The line counted quiet anew with no assembly: at a new rate (R143, R144), and where a frame is complete (R156,
log 4). -/
def Line.restart (l : Line) : Line := { l with assembly := none, quiet := 0 }

/-- The byte in its eight data levels, as heard on LRX or on SDI, most significant bit first (R145, R176). -/
def heardByte (data : List Bool) : Byte := byteOf (bitsByte data.reverse)

/-- What a level makes of an assembly (R156). -/
inductive Heard where
  | going (a : Assembly)
  | discarded
  | complete (bytes : List Byte)
  deriving DecidableEq, Repr

/-- An assembly after a whole byte (R156): discarded at a first byte other than 0xC3 and at a body length
above 40, complete at 7 + body length bytes, else waiting for the next start bit. -/
def takeByte (bytes : List Byte) : Heard :=
  if (bytes.getD 0 0).toNat ≠ 0xC3 then .discarded
  else if bytes.length < 5 then .going ⟨bytes, []⟩
  else if 40 < (bytes.getD 4 0).toNat then .discarded
  else if bytes.length = 7 + (bytes.getD 4 0).toNat then .complete bytes
  else .going ⟨bytes, []⟩

/-- One level heard by an assembly (R145, R156): where a start bit is due one bit time at the high level is
passed over, and a second discards; then come eight data levels and the stop bit, at whose low level the
assembly is discarded. -/
def Assembly.hear (level : Bool) (a : Assembly) : Heard :=
  match a.levels with
  | [] => .going { a with levels := [level] }
  | [true] => if level then .discarded else .going { a with levels := [false] }
  | _ :: data =>
    if data.length < 8 then .going { a with levels := a.levels ++ [level] }
    else if level then takeByte (a.bytes ++ [heardByte data])
    else .discarded

/-- The quiet count after a level: one more at a high level, 0 at a low one (R142, R146). -/
def Line.quietAfter (level : Bool) (l : Line) : Nat := if level then l.quiet + 1 else 0

/-- A level heard with no assembly in progress: a low one after a quiet count of 8 or more is the start bit of
a new assembly (R156). -/
def Line.hearIdle (level : Bool) (l : Line) : Line :=
  { l with
    assembly := if !level && decide (assemblyQuiet ≤ l.quiet) then some ⟨[], [false]⟩ else none
    quiet := l.quietAfter level }

/-- One level heard on LRX, and the bytes of the frame it completes. A level that discards the assembly is
then heard with none in progress, so the quiet count runs on from the last low level (R142, R156); where a frame
is complete it starts at 0 (log 4). -/
def Line.hear (level : Bool) (l : Line) : Line × Option (List Byte) :=
  match l.assembly with
  | none => (l.hearIdle level, none)
  | some a =>
    match a.hear level with
    | .going a' => ({ l with assembly := some a', quiet := l.quietAfter level }, none)
    | .discarded => (l.hearIdle level, none)
    | .complete bytes => (l.restart, some bytes)

/-- Levels heard up to the one that completes a frame, and the frame's bytes; the levels of one row end there
(log 4). -/
def Line.receive : List Bool → Line → Line × Option (List Byte)
  | [], l => (l, none)
  | level :: rest, l =>
    match l.hear level with
    | (l', some bytes) => (l', some bytes)
    | (l', none) => l'.receive rest

/-- `bits` bit times at the high level, heard as they are (R146, R156): the assembly of a frame cut short is
discarded in them, and the quiet count rises with each. None where they complete a frame: COMPLETE_FRAME is the
row of those levels (log 4). -/
def Line.stayHigh (bits : Nat) (l : Line) : Option Line :=
  match l.receive (List.replicate bits restLevel) with
  | (l', none) => some l'
  | (_, some _) => none

end Sys2Proof.Machine
end

