-- ==== Sys2Proof/Machine/Transmit.lean ====
section
/-!
DEFINITION. Machine/Transmit.lean: the sending side of the Line Controller: the line rate (R143,
R144), the backoff generator (R149), the transmit queue with its three departures from order (R151 to
R154), and what one attempt's end does to it (R146, R148, R150). What the owning blocks do with the
reports of R155 stands with those blocks.
-/
namespace Sys2Proof.Machine

/-! ### The line rate (R143) -/

/-- The pair p, n gives a bit rate of 9,600..1,000,000 bit/s at a reference clock in kHz; the bounds
are compared with the exact quotient clock × 1000 / (16 × p × 2^n). -/
def rateWithin (clock p n : Nat) : Bool :=
  decide (9600 * (16 * p * 2 ^ n) ≤ clock * 1000) && decide (clock * 1000 ≤ 1000000 * (16 * p * 2 ^ n))

/-- The pair SET LINE RATE takes: p of 1, 2, 5 or 10, n up to 7, and a rate within the bounds. -/
def rateSupported (clock p n : Nat) : Bool :=
  (p == 1 || p == 2 || p == 5 || p == 10) && decide (n ≤ 7) && rateWithin clock p n

/-! ### The backoff generator (R149) -/

/-- The seed: station number × 257. -/
def generatorSeed (station : Nat) : Word := BitVec.ofNat 16 (station * 257)

/-- One step of the Galois shift register with tap mask 0xB400. -/
def generatorStep (g : Word) : Word := if g.getLsbD 0 then (g >>> 1) ^^^ 0xB400 else g >>> 1

/-- The slots drawn for a collision count: the low min(c, 5) bits of the generator's new value. -/
def slotsDrawn (c : Nat) (g : Word) : Nat := g.toNat % 2 ^ min c 5

/-! ### The transmit queue (R151 to R154) -/

/-- The transmitter's state for a queue whose head is not on the line: IDLE when it is empty, BACKOFF
when the head holds slots to count, else DEFER (R146, R152, R154). -/
def headState : List QueuedFrame → Transmitter
  | [] => .idle
  | e :: _ => if e.slots = 0 then .defer else .backoff

/-- The frames on the line: the head while an attempt runs (R151). -/
def Line.onLine (l : Line) : List QueuedFrame :=
  match l.transmitter with
  | .sending => l.queue.take 1
  | _ => []

/-- The frames of the queue that are not on the line (R151). -/
def Line.waiting (l : Line) : List QueuedFrame :=
  match l.transmitter with
  | .sending => l.queue.drop 1
  | _ => l.queue

/-- The queue with other frames waiting behind the frame on the line, and the transmitter for it. -/
def Line.requeue (waiting : List QueuedFrame) (l : Line) : Line :=
  { l with
    queue := l.onLine ++ waiting
    transmitter :=
      match l.transmitter with
      | .sending => .sending
      | _ => headState waiting }

/-- SEGMENT frames in a queue (R151). -/
def segmentCount (q : List QueuedFrame) : Nat := q.countP fun e => isSegment e.frame

/-- A DRIVE for the same machine as `f`. -/
def sameDrive (f : Frame) (e : QueuedFrame) : Bool :=
  isDrive f && isDrive e.frame && decide (e.frame.target = f.target)

/-- The first DRIVE for `f`'s machine replaced by `f`, with its place, collision count and slots
(R153). -/
def replaceDrive (f : Frame) : List QueuedFrame → List QueuedFrame
  | [] => []
  | e :: rest => if sameDrive f e then { e with frame := f } :: rest else e :: replaceDrive f rest

/-- A HALT placed behind the HALT frames waiting and ahead of every other (R152). -/
def placeHalt (e : QueuedFrame) (q : List QueuedFrame) : List QueuedFrame :=
  q.takeWhile (fun w => isHalt w.frame) ++ e :: q.dropWhile (fun w => isHalt w.frame)

/-- A frame taken joins the queue (R151, R152). -/
def placeFrame (f : Frame) (q : List QueuedFrame) : List QueuedFrame :=
  if isHalt f then placeHalt ⟨f, 0, 0⟩ q else q ++ [⟨f, 0, 0⟩]

/-- The queue refuses a frame while ONLINE: a fourth SEGMENT, or a ninth frame (R151). -/
def Line.refuses (f : Frame) (l : Line) : Bool :=
  (isSegment f && decide (Config.segmentDepth ≤ segmentCount l.queue))
    || decide (Config.transmitDepth ≤ l.queue.length)

/-- The notice of a frame dropped or refused (R150, R151, R180). -/
def lineDrop (f : Frame) (reason : Reason) : Notice :=
  ⟨.lineDrop, none, f.target, reason, kindCode f.body⟩

/-- A frame offered to the transmit queue, and whether the queue took it (R151 to R153). A refusal
while ONLINE raises LINE_DROP, but for a DRIVE or a SEGMENT; a station that is not ONLINE refuses
every frame (R146). -/
def State.offer (f : Frame) (s : State) : State × Bool :=
  if s.station ≠ .online then (s, false)
  else if s.line.waiting.any (sameDrive f) then
    ({ s with line := s.line.requeue (replaceDrive f s.line.waiting) }, true)
  else if s.line.refuses f then
    (if isDrive f || isSegment f then s else s.raise (lineDrop f .queueFull), false)
  else ({ s with line := s.line.requeue (placeFrame f s.line.waiting) }, true)

/-- A frame offered, whose owner takes no note of a refusal (R5). -/
def State.send (f : Frame) (s : State) : State := (s.offer f).1

/-- Every waiting SEGMENT of a transfer withdrawn (R154). -/
def Line.withdraw (transfer : Nat) (l : Line) : Line :=
  l.requeue (l.waiting.filter fun e => !isSegmentOf transfer e.frame)

/-- How many frames a withdrawal removes (R154, R155). -/
def Line.withdrawn (transfer : Nat) (l : Line) : Nat :=
  l.waiting.countP fun e => isSegmentOf transfer e.frame

/-! ### Attempts -/

/-- The levels LTX carries in the attempt on the line, from its first bit on: those of the head frame while
it is SENDING, and none else, for the line then rests (R145, R146). -/
def Line.driven (l : Line) : List Bool := l.onLine.flatMap fun e => frameLevels e.frame

/-- The head frame starts: SENDING, and the station hears its own first bit, which returns the quiet count to
0 and begins the assembly of its echo, or joins an assembly still in progress (R146, R156, R159). -/
def Line.begin (l : Line) : Line :=
  let l1 := { l with transmitter := .sending }
  (l1.hear (l1.driven.headD restLevel)).1

/-- In DEFER the head frame starts when the quiet count meets the requirement of its class, whatever has been
heard before (R146, R147). -/
def Line.startHead (l : Line) : Line :=
  match l.transmitter, l.queue with
  | .defer, e :: _ => if quietNeed e.frame ≤ l.quiet then l.begin else l
  | _, _ => l

/-- `bits` bit times at the high level, and the head frame's start judged after them; in an attempt, and where
those levels would complete a frame, no frame starts (log 1, log 4). -/
def Line.startAfter (bits : Nat) (l : Line) : Line :=
  match l.transmitter with
  | .sending => l
  | _ => ((l.stayHigh bits).map Line.startHead).getD l

/-- The frame on the line leaves the queue, and the next becomes head (R146, R150). -/
def Line.dropHead (l : Line) : Line :=
  { l with queue := l.queue.tail, transmitter := headState l.queue.tail, quiet := 0 }

/-- The frame on the line after a mismatch that does not drop it: its collision count raised and its
slots drawn (R148, R149), its place taken by a newer DRIVE for its machine if one waits (R153). -/
def retried (g : Word) (e : QueuedFrame) (rest : List QueuedFrame) : QueuedFrame :=
  match rest.find? (sameDrive e.frame) with
  | none => ⟨e.frame, e.collisions + 1, slotsDrawn (e.collisions + 1) g⟩
  | some newer => ⟨newer.frame, e.collisions + 1, slotsDrawn (e.collisions + 1) g⟩

/-- The frames behind it then: without the DRIVE that took its place (R153). -/
def behindRetried (e : QueuedFrame) (rest : List QueuedFrame) : List QueuedFrame :=
  rest.eraseP (sameDrive e.frame)

/-- The head put back after a mismatch: at the head, or behind every HALT that waits (R148, R152). A HALT
goes behind the HALT frames that wait, and a HALT that becomes head with slots of its own earlier collision
counts them in BACKOFF first: the model's choice in both (log 8). -/
def Line.retryHead (l : Line) : Line :=
  match l.queue with
  | [] => l
  | e :: rest =>
    let g := generatorStep l.generator
    let q := placeHalt (retried g e rest) (behindRetried e rest)
    { l with queue := q, transmitter := headState q, generator := g, quiet := 0 }

/-- Slots counted in BACKOFF; with the last, or at once for none, the head enters DEFER (R149). -/
def Line.countSlots (slots : Nat) (l : Line) : Line :=
  match l.transmitter, l.queue with
  | .backoff, e :: rest =>
    let e' := { e with slots := e.slots - slots }
    { l with queue := e' :: rest, transmitter := headState (e' :: rest) }
  | _, _ => l

end Sys2Proof.Machine
end

