-- ==== Sys2Proof/Machine/TransferEngine.lean ====
section
/-!
DEFINITION. Machine/TransferEngine.lean: the CHAIR's Transfer Engine: its sender (R39 to R43), its
receiver (R44 to R51), the area locks (R35) and the end of its transfer (R38).
-/
namespace Sys2Proof.Machine

/-! ### The chair's frames, seats and engine -/

/-- A frame queued by a CHAIR, whose owner takes no note of a refusal. -/
def ChairView.sendTo (target : Nat) (b : Body) (v : ChairView) : ChairView :=
  v.lift (State.send ⟨v.config.station, target, b⟩)

/-- Seat `i` of the chair. -/
def ChairView.seat (v : ChairView) (i : Fin 4) : Seat := v.seats.get i

/-- Seat `i` changed. -/
def ChairView.updateSeat (i : Fin 4) (f : Seat → Seat) (v : ChairView) : ChairView :=
  { v with seats := v.seats.set i (f (v.seats.get i)) }

/-- The context area of seat `i` changed. -/
def ChairView.updateArea (i : Fin 4) (f : ContextArea → ContextArea) (v : ChairView) : ChairView :=
  v.updateSeat i fun s => { s with area := f s.area }

/-- The engine's active transfer set. -/
def ChairView.setActive (a : Option ActiveTransfer) (v : ChairView) : ChairView :=
  { v with engine := { v.engine with active := a } }

/-- The engine's pending receive set. -/
def ChairView.setPendingReceive (p : Option PendingReceive) (v : ChairView) : ChairView :=
  { v with engine := { v.engine with pendingReceive := p } }

/-- A seat's area is locked while the active transfer or the pending receive serves the seat (R35). -/
def Engine.locks (e : Engine) (i : Fin 4) : Bool :=
  e.active.any (fun a => decide (a.seat = i)) || e.pendingReceive.any (fun p => decide (p.seat = i))

/-- The next burst number: one more, from 255 to 1 (R46). -/
def nextBurst (b : Nat) : Nat := if b = 255 then 1 else b + 1

/-! ### The sender -/

/-- The next SEGMENT of a sender at its position: the lesser of 8 and what remains (R41). -/
def nextSegment (a : ActiveTransfer) (r : Sender) (area : ContextArea) : Body :=
  .segment a.number a.burst r.position (areaWordsFrom area r.position (min 8 (r.length - r.position)))

/-- Segments queued while fewer than three are in the transmit queue, then the SUM (R41). A segment
the queue refuses is lost and the position is not moved back. `fuel` bounds the segments of one
context: 48 of 8 words. -/
def ChairView.pump : Nat → ActiveTransfer → Sender → ChairView → ChairView
  | 0, a, r, v => v.setActive (some { a with side := .sender r })
  | fuel + 1, a, r, v =>
    if r.length ≤ r.position then
      (v.sendTo a.peer (.sum a.number r.length r.sum)).setActive
        (some { a with side := .sender { r with state := .done } })
    else if Config.segmentDepth ≤ r.queued then v.setActive (some { a with side := .sender r })
    else
      let o := v.toState.offer ⟨v.config.station, a.peer, nextSegment a r (v.seat a.seat).area⟩
      let r' := { r with
        position := r.position + min 8 (r.length - r.position)
        queued := if o.2 then r.queued + 1 else r.queued }
      ChairView.pump fuel a r' { v with toState := o.1 }

/-- Enough fuel for every segment of a context and its SUM. -/
abbrev pumpFuel : Nat := 50

/-- The sender runs: SEND_RUN, and queuing from its position (R40, R41). -/
def ChairView.runSender (a : ActiveTransfer) (r : Sender) (v : ChairView) : ChairView :=
  v.pump pumpFuel a { r with state := .run }

/-- The engine becomes sender for a seat on an OPEN (R39): the seat's own length and sum, b = 0,
p = 0, SEND_WAIT; the segments it counts are those in the transmit queue (log 9). -/
def ChairView.startSender (i : Fin 4) (machine number receiver length : Nat) (v : ChairView) :
    ChairView :=
  let area := (v.seat i).area
  v.setActive (some
    ⟨i, machine, number, receiver, length, 0,
      .sender ⟨.wait, area.length, 0, contextSum area area.length, segmentCount v.line.queue⟩⟩)

/-- A withdrawal of the transfer's waiting segments, counted out of the sender's queue (R154, R155). -/
def ChairView.withdraw (a : ActiveTransfer) (r : Sender) (v : ChairView) : ChairView × Sender :=
  ({ v with line := v.line.withdraw a.number },
   { r with queued := r.queued - v.line.withdrawn a.number })

/-- A burst started: b and p from the GO, SEND_RUN, queuing (R40). -/
def ChairView.startBurst (a : ActiveTransfer) (r : Sender) (burst index : Nat) (v : ChairView) :
    ChairView :=
  v.runSender { a with burst := burst } { r with position := index }

/-- A GO from the peer (R40). -/
def ChairView.senderGo (a : ActiveTransfer) (r : Sender) (burst index : Nat) (v : ChairView) :
    ChairView :=
  if burst ≠ a.burst then
    match r.state with
    | .run =>
      let w := v.withdraw a r
      w.1.startBurst a w.2 burst index
    | _ => v.startBurst a r burst index
  else
    match r.state with
    | .paused => v.runSender a r
    | _ => v

/-- A HOLD from the peer (R42). -/
def ChairView.senderHold (a : ActiveTransfer) (r : Sender) (burst : Nat) (v : ChairView) : ChairView :=
  if burst = a.burst ∧ r.state = .run then
    v.setActive (some { a with side := .sender { r with state := .paused } })
  else v

/-- A STOP from the peer (R43). -/
def ChairView.senderStop (a : ActiveTransfer) (r : Sender) (burst : Nat) (v : ChairView) : ChairView :=
  if burst = a.burst ∧ r.state ≠ .wait then
    let w := v.withdraw a r
    w.1.setActive (some { a with side := .sender { w.2 with state := .wait } })
  else v

/-- A SEGMENT has left the transmit queue, sent or dropped (R155): the sender counts it out, and in
SEND_RUN queues on (R41). -/
def ChairView.segmentLeft (v : ChairView) : ChairView :=
  match v.engine.active with
  | some a =>
    match a.side with
    | .sender r =>
      let r' := { r with queued := r.queued - 1 }
      match r.state with
      | .run => v.runSender a r'
      | _ => v.setActive (some { a with side := .sender r' })
    | .receiver _ => v
  | none => v

/-! ### The receiver -/

/-- The receiver's record replaced. -/
def ChairView.setReceiver (a : ActiveTransfer) (r : Receiver) (v : ChairView) : ChairView :=
  v.setActive (some { a with side := .receiver r })

/-- The engine becomes receiver for a seat (R44): length l, k = 0, b = 1, flags clear, the area's
length 0, GO for burst 1 from word 0, RECV_RUN. -/
def ChairView.startReceiver (p : PendingReceive) (v : ChairView) : ChairView :=
  let v1 := v.updateArea p.seat fun a => { a with length := 0 }
  (v1.sendTo p.sender (.go p.number 1 0)).setActive (some
    ⟨p.seat, p.machine, p.number, p.sender, p.length, 1,
      .receiver ⟨.run, 0, 0, false, Config.pauseAllowance, false, false⟩⟩)

/-- A hold cause is set: the host hold flag or the pressure flag (R49). -/
def Receiver.paused (r : Receiver) : Bool := r.hostHold || r.pressure

/-- A new burst from a word index: GO with the next burst number, RECV_RUN, the burst-seen flag clear,
the allowance full (R46, R49). -/
def ChairView.nextRun (a : ActiveTransfer) (r : Receiver) (index : Nat) (v : ChairView) : ChairView :=
  (v.sendTo a.peer (.go a.number (nextBurst a.burst) index)).setReceiver
    { a with burst := nextBurst a.burst }
    { r with state := .run, burstSeen := false, allowance := Config.pauseAllowance }

/-- Recovery from a word index (R46). A RECV_RUN with a hold cause set does not arise (log 20). -/
def ChairView.recover (a : ActiveTransfer) (r : Receiver) (index : Nat) (v : ChairView) : ChairView :=
  match r.state with
  | .run =>
    ((v.sendTo a.peer (.hold a.number a.burst)).sendTo a.peer (.stop a.number a.burst)).nextRun a
      { r with resumeIndex := index } index
  | .check =>
    if r.paused then
      (v.sendTo a.peer (.stop a.number a.burst)).setReceiver a
        { r with resumeIndex := index, state := .stopped }
    else (v.sendTo a.peer (.stop a.number a.burst)).nextRun a { r with resumeIndex := index } index
  | .paused =>
    (v.sendTo a.peer (.stop a.number a.burst)).setReceiver a
      { r with resumeIndex := index, state := .stopped }
  | .stopped => v.setReceiver a { r with resumeIndex := min r.resumeIndex index }

/-- A segment of the burst judged by its index (R45): stored at k while k is below l, ignored below k
or with all words held, a gap above k. -/
def ChairView.judgeSegment (a : ActiveTransfer) (r : Receiver) (index : Nat) (words : List Word)
    (v : ChairView) : ChairView :=
  if index = r.held then
    if r.held < a.length then
      (v.updateArea a.seat (areaStore index (wordsBelow a.length index words))).setReceiver a
        { r with held := r.held + words.length }
    else v.setReceiver a r
  else if index < r.held then v.setReceiver a r
  else v.recover a r r.held

/-- A SEGMENT of the active transfer from its peer (R45, R48): in RECV_RUN, and in RECV_PAUSED while
the allowance lasts, a segment of the burst sets the burst-seen flag and is judged. -/
def ChairView.receiveSegment (a : ActiveTransfer) (r : Receiver) (burst index : Nat)
    (words : List Word) (v : ChairView) : ChairView :=
  if burst = a.burst then
    match r.state with
    | .run => v.judgeSegment a { r with burstSeen := true } index words
    | .paused =>
      if r.allowance = 0 then v
      else v.judgeSegment a { r with burstSeen := true, allowance := r.allowance - 1 } index words
    | _ => v
  else v

/-- ACCEPT with the sum over the words held, to the machine; RECV_CHECK (R50). -/
def ChairView.sendAccept (a : ActiveTransfer) (r : Receiver) (v : ChairView) : ChairView :=
  (v.sendTo a.machine (.accept a.number (contextSum (v.seat a.seat).area a.length))).setReceiver a
    { r with state := .check }

/-- A SUM of the active transfer from its peer (R50). -/
def ChairView.receiveSum (a : ActiveTransfer) (r : Receiver) (v : ChairView) : ChairView :=
  match r.state with
  | .stopped => v
  | .check => v.sendAccept a r
  | _ =>
    if a.length ≤ r.held then v.sendAccept a r
    else if r.burstSeen then v.recover a r r.held
    else v

/-- A LAG of the active transfer from its machine (R51). -/
def ChairView.receiveLag (a : ActiveTransfer) (r : Receiver) (index : Nat) (v : ChairView) :
    ChairView :=
  if index < a.length then v.recover a r (min index r.held) else v

/-- A hold cause has become set (R47): from RECV_RUN the receiver queues HOLD and pauses; in the other
states only the flag changes. `r` has the flag set. -/
def ChairView.pauseFor (a : ActiveTransfer) (r : Receiver) (v : ChairView) : ChairView :=
  match r.state with
  | .run =>
    (v.sendTo a.peer (.hold a.number a.burst)).setReceiver a
      { r with state := .paused, allowance := Config.pauseAllowance }
  | _ => v.setReceiver a r

/-- The start index of a GO for the same burst (R49), held within the word index's range 0..383 (R162): with
all 384 words of a context held, k is 384, which no GO can carry, and the GO names 383. The model's choice
(log 29); a sender reads no index from a GO that resumes its burst (R40). -/
def resumeIndexOf (held : Nat) : Nat := min held 383

/-- The last hold cause has cleared (R49): GO for the same burst from RECV_PAUSED, for the next burst
from RECV_STOPPED. `r` has both flags clear. -/
def ChairView.liftPause (a : ActiveTransfer) (r : Receiver) (v : ChairView) : ChairView :=
  match r.state with
  | .paused =>
    (v.sendTo a.peer (.go a.number a.burst (resumeIndexOf r.held))).setReceiver a
      { r with state := .run, allowance := Config.pauseAllowance }
  | .stopped => v.nextRun a r r.resumeIndex
  | _ => v.setReceiver a r

/-- A flag has cleared: the pause is lifted if neither is set any longer (R49). -/
def ChairView.liftIfClear (a : ActiveTransfer) (r : Receiver) (v : ChairView) : ChairView :=
  if r.paused then v.setReceiver a r else v.liftPause a r

/-- A frame has joined the receive FIFO and left `depth` frames in it (R47, R160): 6 or more set the
pressure flag of a receiver. -/
def ChairView.fifoJoined (depth : Nat) (v : ChairView) : ChairView :=
  match v.engine.active with
  | some a =>
    match a.side with
    | .receiver r =>
      if Config.pressureSet ≤ depth ∧ r.pressure = false then v.pauseFor a { r with pressure := true }
      else v
    | .sender _ => v
  | none => v

/-- A frame has left the receive FIFO and left `depth` frames in it (R47, R49, R160): 2 or fewer clear
the pressure flag of a receiver. -/
def ChairView.fifoLeft (depth : Nat) (v : ChairView) : ChairView :=
  match v.engine.active with
  | some a =>
    match a.side with
    | .receiver r =>
      if depth ≤ Config.pressureClear ∧ r.pressure = true then v.liftIfClear a { r with pressure := false }
      else v
    | .sender _ => v
  | none => v

/-! ### The end of a transfer (R38) -/

/-- The area of a receiver at the end of its transfer: its length l at a COMMIT, 0 at any other end;
a sender's area keeps its words and length (R38 step 2). -/
def ChairView.settleArea (a : ActiveTransfer) (committed : Bool) (v : ChairView) : ChairView :=
  match a.side with
  | .sender _ => v
  | .receiver _ =>
    v.updateArea a.seat fun area => { area with length := if committed then a.length else 0 }

/-- A pending receive taken up if its seat is still RECEIVING, else dropped (R38 step 3). -/
def ChairView.takeUpPending (v : ChairView) : ChairView :=
  match v.engine.pendingReceive with
  | none => v
  | some p =>
    let v1 := v.setPendingReceive none
    if (v.seat p.seat).state = .receiving then v1.startReceiver p else v1

/-- The active transfer ended (R38): the area settled, IDLE, a pending receive taken up. -/
def ChairView.endActive (committed : Bool) (v : ChairView) : ChairView :=
  match v.engine.active with
  | none => v
  | some a => ((v.settleArea a committed).setActive none).takeUpPending

/-- What serves a seat at the engine ended: its active transfer, or its pending receive dropped
(R38, R87). -/
def ChairView.endSeatTransfer (i : Fin 4) (committed : Bool) (v : ChairView) : ChairView :=
  if v.engine.active.any (fun a => decide (a.seat = i)) then v.endActive committed
  else if v.engine.pendingReceive.any (fun p => decide (p.seat = i)) then v.setPendingReceive none
  else v

/-- The active transfer is (X, t) (R37). -/
def Engine.isActive (machine number : Nat) (e : Engine) : Bool :=
  e.active.any fun a => decide (a.machine = machine ∧ a.number = number)

/-- The pending receive is (X, t) (R37). -/
def Engine.isPending (machine number : Nat) (e : Engine) : Bool :=
  e.pendingReceive.any fun p => decide (p.machine = machine ∧ p.number = number)

/-- COMMIT or ABORT heard for (X, t) at the engine: the active transfer ended, or the pending receive
dropped (R38). -/
def ChairView.engineHears (machine number : Nat) (committed : Bool) (v : ChairView) : ChairView :=
  if v.engine.isActive machine number then v.endActive committed
  else if v.engine.isPending machine number then v.setPendingReceive none
  else v

end Sys2Proof.Machine
end

