-- ==== Sys2Proof/Machine/Reception.lean ====
section
/-!
DEFINITION. Machine/Reception.lean: the receiving side of the Line Controller: the address filter with
its overhearing (R158), the station clash in each station state (R159, R204), the receive FIFO (R160,
R161), and the taking of the frame at its head by the blocks of a role (R4, R160).
-/
namespace Sys2Proof.Machine

/-! ### The address filter (R158) -/

/-- The kinds a MACHINE takes (R158). -/
def machineTakes : Body → Bool
  | .ask _ | .yield .. | .decline _ | .release _ | .seize _ | .admission .. | .drive .. | .halt
  | .resume _ | .segment .. | .sum .. | .accept .. | .abandon .. => true
  | .beacon .. | .grant .. | .refuse _ | .propose .. | .openTransfer .. | .hold .. | .go .. | .stop ..
  | .lag .. | .commit .. | .abort .. => false

/-- The kinds a CHAIR takes (R158). -/
def chairTakes : Body → Bool
  | .beacon .. | .grant .. | .refuse _ | .propose .. | .openTransfer .. | .segment .. | .hold ..
  | .go .. | .stop .. | .sum .. | .lag .. | .commit .. | .abort .. => true
  | .ask _ | .yield .. | .decline _ | .release _ | .seize _ | .admission .. | .drive .. | .halt
  | .resume _ | .accept .. | .abandon .. => false

/-- The kinds a CHAIR keeps whatever their target (R158). -/
def chairOverhears : Body → Bool
  | .beacon .. | .propose .. | .openTransfer .. | .commit .. | .abort .. | .lag .. => true
  | _ => false

/-- The transfer number of a frame of the two chairs' exchange: SEGMENT, HOLD, GO, STOP, SUM (R158). -/
def exchangeNumber : Body → Option Nat
  | .segment t .. => some t
  | .hold t _ => some t
  | .go t .. => some t
  | .stop t _ => some t
  | .sum t .. => some t
  | _ => none

/-- The transfer number of a frame the witness overhears: SEGMENT, SUM (R158). -/
def witnessNumber : Body → Option Nat
  | .segment t .. => some t
  | .sum t .. => some t
  | _ => none

/-- A frame of the engine's active transfer or pending receive from the other chair of it (R158). -/
def Engine.overhears (e : Engine) (f : Frame) : Bool :=
  e.active.any (fun a => decide (exchangeNumber f.body = some a.number ∧ f.source = a.peer))
    || e.pendingReceive.any (fun p => decide (exchangeNumber f.body = some p.number ∧ f.source = p.sender))

/-- A SEGMENT or SUM of the Binding Unit's current transfer from its sender (R158). -/
def Binding.overhears (b : Binding) (f : Frame) : Bool :=
  match b.state with
  | .transfer r => decide (witnessNumber f.body = some r.number ∧ f.source = r.sender)
  | _ => false

/-- The frame is addressed to this station or to all (R158). -/
def Frame.addressed (station : Nat) (f : Frame) : Bool :=
  decide (f.target = station ∨ f.target = Config.allStations)

/-- A checked frame is kept by its target, its kind and the role (R158). -/
def State.keeps (f : Frame) (s : State) : Bool :=
  match s.blocks with
  | .unset => false
  | .machine m => f.addressed s.config.station && machineTakes f.body || m.binding.overhears f
  | .chair c =>
    f.addressed s.config.station && chairTakes f.body || chairOverhears f.body || c.engine.overhears f

/-! ### The receive FIFO (R160) -/

/-- A kept frame joins the FIFO, and a CHAIR's engine is given the depth (R47); a full FIFO loses the
frame and sets the receive-overrun flag. -/
def State.join (f : Frame) (s : State) : State :=
  if s.line.fifo.length < Config.receiveDepth then
    onChair (ChairView.fifoJoined (s.line.fifo.length + 1))
      { s with line := { s.line with fifo := s.line.fifo ++ [f] } }
  else { s with line := { s.line with overrun := true } }

/-! ### The station clash (R159, R204) -/

/-- A clash judged in ONLINE: CLASH raised and the clash-seen flag set (R159). -/
def State.clashOnline (f : Frame) (s : State) : State :=
  ({ s with port := { s.port with clashSeen := true } }).raise
    ⟨.clash, none, s.config.station, .none, kindCode f.body⟩

/-- The halt latch of a MACHINE cleared with no notice, and STB brought back (R204). -/
def clearLatchSilently (c : Configuration) : Blocks → Blocks
  | .machine m =>
    .machine { m with gate := ({ m.gate with halted := false } : DriveGate).recompute c m.binding }
  | b => b

/-- A clash in LISTEN: the listen timer stops, the station is in SETUP again, START_FAILED is raised and
the halt latch cleared (R204). -/
def State.clashInListen (f : Frame) (s : State) : State :=
  ({ s with
      station := .setup
      listenTimer := none
      blocks := clearLatchSilently s.config s.blocks }).raise
    ⟨.startFailed, none, s.config.station, .none, kindCode f.body⟩

/-- A checked frame judged by the station state: in LISTEN, where the station sends nothing, every one of its
own number is a clash (R204); in ONLINE the echo is discarded, then clash is judged, then the address filter
(R157 to R161, log 5). -/
def State.hearFrame (f : Frame) (echo : Bool) (s : State) : State :=
  match s.station with
  | .setup => s
  | .listen => if f.source = s.config.station then s.clashInListen f else s
  | .online =>
    if echo then s
    else if f.source = s.config.station then s.clashOnline f
    else if s.keeps f then s.join f
    else s

/-! ### The taking of a frame (R4, R160) -/

/-- The FIFO with its head frame gone. -/
def State.takeHead (rest : List Frame) (s : State) : State :=
  { s with line := { s.line with fifo := rest } }

/-- The frame at the head of a MACHINE's FIFO taken in ONLINE by a rule for its kind; where the head is
of another kind, or there is none, the event does not arise and the state stands (log 1). -/
def takeOnMachine (rule : Frame → Option (MachineView → MachineView)) (s : State) : State :=
  match s.station, s.blocks, s.line.fifo with
  | .online, .machine m, f :: rest =>
    match rule f with
    | some g => (g ⟨s.takeHead rest, m⟩).close
    | none => s
  | _, _, _ => s

/-- The frame at the head of a CHAIR's FIFO taken in ONLINE by the rules for its kind; the engine is then
given the depth that is left (R47, R160, log 15). -/
def takeOnChair (rule : Frame → Option (ChairView → ChairView)) (s : State) : State :=
  match s.station, s.blocks, s.line.fifo with
  | .online, .chair c, f :: rest =>
    match rule f with
    | some g => ((g ⟨s.takeHead rest, c⟩).fifoLeft rest.length).close
    | none => s
  | _, _, _ => s

end Sys2Proof.Machine
end

