-- ==== Sys2Proof/Machine/Lookup.lean ====
section
/-!
DEFINITION. Machine/Lookup.lean: the zone table and its walk (R118, R122, R123), the lookup cache
with its fill and its fences (R126 to R133), and an ordinary lookup (R127).
-/
namespace Sys2Proof.Machine

/-! ### The zone table (R118) -/

/-- The place of top table entry `s` in the 1552 entries. -/
def topAddress (s : Nat) : Nat := s

/-- The place of entry `c` of crosscut table `x`. -/
def crosscutAddress (x c : Nat) : Nat := 16 + x * 32 + c

/-- The place of entry `d` of drawpoint table `y`. -/
def drawpointAddress (y d : Nat) : Nat := 16 + 24 * 32 + y * 16 + d

/-- An entry of the zone table; one nothing has written is ABSENT (R119). -/
def Zones.entry (z : Zones) (address : Nat) : ZoneEntry := storeRead .absent z.table address

/-- An entry replaced whole (R120). -/
def Zones.write (address : Nat) (e : ZoneEntry) (z : Zones) : Zones :=
  { z with table := storeWrite .absent address e z.table }

/-- The place a table code, table number and entry index name, none outside their ranges (R120,
R121). -/
def entryAddress (table number index : Nat) : Option Nat :=
  match table with
  | 0 => if number = 0 ∧ index < 16 then some (topAddress index) else none
  | 1 => if number < 24 ∧ index < 32 then some (crosscutAddress number index) else none
  | 2 => if number < 48 ∧ index < 16 then some (drawpointAddress number index) else none
  | _ => none

/-! ### The walk (R122, R123) -/

/-- What a walk gives: a result with the prefix it covers, or a fault. -/
abbrev Walk := Except ZoneFault (ZonePrefix × ZoneResult)

/-- A LEAF ends the walk; one that holds LOAD or TIP without DRIVE is malformed (R123). -/
def endAt (p : ZonePrefix) (r : Rights) (l : Nat) (g : Bool) : Walk :=
  if (r.load || r.tip) && !r.drive then .error .malformed else .ok (p, ⟨r, l, g⟩)

/-- The walk's last step: a drawpoint table entry (R122 step 4). -/
def walkDrawpoint (z : Zones) (code : ZoneCode) (y : Nat) : Walk :=
  match z.entry (drawpointAddress y code.drawpoint.val) with
  | .absent => .error .noEntry
  | .leaf r l g => endAt (.level3 code.sublevel code.crosscut code.drawpoint) r l g
  | .branch _ => .error .malformed

/-- The walk's second step: a crosscut table entry (R122 step 3). -/
def walkCrosscut (z : Zones) (code : ZoneCode) (x : Nat) : Walk :=
  match z.entry (crosscutAddress x code.crosscut.val) with
  | .absent => .error .noEntry
  | .leaf r l g => endAt (.level2 code.sublevel code.crosscut) r l g
  | .branch y => if y < 48 then walkDrawpoint z code y else .error .malformed

/-- The walk of a zone code (R122). -/
def walk (z : Zones) (code : ZoneCode) : Walk :=
  match z.entry (topAddress code.sublevel.val) with
  | .absent => .error .noEntry
  | .leaf r l g => endAt (.level1 code.sublevel) r l g
  | .branch x => if x < 24 then walkCrosscut z code x else .error .malformed

/-! ### Prefixes (R126) -/

/-- The level of a prefix. -/
def prefixLevel : ZonePrefix → Nat
  | .level1 _ => 1
  | .level2 _ _ => 2
  | .level3 _ _ _ => 3

/-- A prefix covers a zone code that agrees with it at every level it holds. -/
def covers : ZonePrefix → ZoneCode → Bool
  | .level1 s, z => decide (z.sublevel = s)
  | .level2 s c, z => decide (z.sublevel = s ∧ z.crosscut = c)
  | .level3 s c d, z => decide (z.sublevel = s ∧ z.crosscut = c ∧ z.drawpoint = d)

/-- Two prefixes overlap when one of them covers the other. -/
def overlaps : ZonePrefix → ZonePrefix → Bool
  | .level1 s, .level1 s' => decide (s = s')
  | .level1 s, .level2 s' _ => decide (s = s')
  | .level1 s, .level3 s' _ _ => decide (s = s')
  | .level2 s _, .level1 s' => decide (s = s')
  | .level2 s c, .level2 s' c' => decide (s = s' ∧ c = c')
  | .level2 s c, .level3 s' c' _ => decide (s = s' ∧ c = c')
  | .level3 s _ _, .level1 s' => decide (s = s')
  | .level3 s c _, .level2 s' c' => decide (s = s' ∧ c = c')
  | .level3 s c d, .level3 s' c' d' => decide (s = s' ∧ c = c' ∧ d = d')

/-! ### The cache (R126 to R129) -/

/-- An entry is in use while its fill generation is the active one or its global flag is set. -/
def CacheEntry.inUse (generation : Nat) (e : CacheEntry) : Bool :=
  decide (e.generation = generation) || e.result.isGlobal

/-- The entry in use that covers a zone code (R127). -/
def cacheHit (z : Zones) (code : ZoneCode) : Option CacheEntry :=
  z.cache.find? fun e => e.inUse z.generation && covers e.covered code

/-- Two entries conflict: their prefixes overlap, and they have the same fill generation or one of
them is global (R128 step 1). -/
def conflicts (e new : CacheEntry) : Bool :=
  overlaps e.covered new.covered
    && (decide (e.generation = new.generation) || e.result.isGlobal || new.result.isGlobal)

/-- A fill: conflicting entries removed, the oldest removed if no place is free, the new entry the
newest (R128). -/
def fill (new : CacheEntry) (cache : List CacheEntry) : List CacheEntry :=
  let kept := cache.filter fun e => !conflicts e new
  (if Config.cacheDepth ≤ kept.length then kept.tail else kept) ++ [new]

/-- The answer of a lookup (R123, R127, R134). -/
structure LookupAnswer where
  fault : Option ZoneFault
  rights : Rights
  limit : Nat
  isGlobal : Bool
  covered : Option ZonePrefix
  fromCache : Bool
  deriving DecidableEq, Repr

/-- A successful answer. -/
def found (p : ZonePrefix) (r : ZoneResult) (fromCache : Bool) : LookupAnswer :=
  ⟨none, r.rights, r.limit, r.isGlobal, some p, fromCache⟩

/-- A faulting answer: rights {}, limit 0, global flag clear, no prefix (R123). -/
def faulted (f : ZoneFault) : LookupAnswer := ⟨some f, Rights.empty, 0, false, none, false⟩

/-- An ordinary lookup: a hit leaves the cache as it is, a successful walk fills it, a faulting walk
leaves it as it is (R123, R127, R128). -/
def Zones.lookup (code : ZoneCode) (z : Zones) : LookupAnswer × Zones :=
  match cacheHit z code with
  | some e => (found e.covered e.result true, z)
  | none =>
    match walk z code with
    | .error f => (faulted f, z)
    | .ok (p, r) => (found p r false, { z with cache := fill ⟨p, z.generation, r⟩ z.cache })

/-! ### Fences (R132, R133) -/

/-- The prefix of a level 1..3 that a zone code's leading fields give (R177). -/
def prefixOf (level : Nat) (code : ZoneCode) : ZonePrefix :=
  match level with
  | 1 => .level1 code.sublevel
  | 2 => .level2 code.sublevel code.crosscut
  | _ => .level3 code.sublevel code.crosscut code.drawpoint

/-- The entries a fence removes: `zone` none is the zone part ALL, `generation` none the generation
part ALL (R132). -/
def fenceRemoves (zone : Option ZonePrefix) (generation : Option Nat) (e : CacheEntry) : Bool :=
  (match zone with
   | none => true
   | some p => overlaps e.covered p)
  && (match generation with
      | none => true
      | some g => decide (e.generation = g) && !e.result.isGlobal)

/-- A fence: the entries it names removed, the others in their order (R132). -/
def Zones.fence (zone : Option ZonePrefix) (generation : Option Nat) (z : Zones) : Zones :=
  { z with cache := z.cache.filter fun e => !fenceRemoves zone generation e }

/-- A fence covers a zone code by its zone part alone (R133). -/
def fenceCovers (zone : Option ZonePrefix) (code : ZoneCode) : Bool :=
  match zone with
  | none => true
  | some p => covers p code

/-- ZONE LOOKUP's record: fault, rights, limit, global flag, prefix level, source, active generation,
entries held after the lookup (R134, R181). -/
def lookupRecord (a : LookupAnswer) (z : Zones) : List Byte :=
  [byteOf (faultByte a.fault), rightsByte a.rights, byteOf a.limit, flagByte a.isGlobal,
   byteOf (match a.covered with | none => 0 | some p => prefixLevel p), flagByte a.fromCache,
   byteOf z.generation, byteOf z.cache.length]

end Sys2Proof.Machine
end

