-- ==== Sys2Proof/Machine/SeatTable.lean ====
section
/-!
DEFINITION. Machine/SeatTable.lean: the CHAIR's Seat Table and Fleet View: a chair's terms (R91), seats
occupied and freed (R87, R92, R109), the answers to a seat (R94 to R98), the ends of a handover (R102,
R103), DRIVE generation (R106), conflict (R107), re-admission (R111, R112), notices (R113) and the
fleet records (R114 to R116).
-/
namespace Sys2Proof.Machine

/-! ### Seats -/

/-- The first seat that satisfies a test, in seat index order. -/
def ChairView.findSeat (v : ChairView) (p : Seat → Bool) : Option (Fin 4) :=
  seatOrder.find? fun i => p (v.seat i)

/-- A seat that names a machine is occupied; a FREE seat is not (R86). -/
def Seat.names (machine : Nat) (s : Seat) : Bool :=
  decide (s.state ≠ .free) && decide (s.machine = machine)

/-- The seat that names a machine (R86). -/
def ChairView.seatFor (machine : Nat) (v : ChairView) : Option (Fin 4) := v.findSeat (Seat.names machine)

/-- The lowest-numbered FREE seat (R92, R109). -/
def ChairView.freeSeat (v : ChairView) : Option (Fin 4) :=
  v.findSeat fun s => decide (s.state = .free)

/-- A seat that has asked: ASKING, WAITING or SEIZING (R94, R96). -/
def Seat.hasAsked (s : Seat) : Bool :=
  decide (s.state = .asking ∨ s.state = .waiting ∨ s.state = .seizing)

/-- A seat that is controller as far as the chair knows: HOLDING or SENDING (R106, R111). -/
def Seat.drives (s : Seat) : Bool := decide (s.state = .holding ∨ s.state = .sending)

/-- A notice that names a seat and its machine (R113). -/
def ChairView.notify (i : Fin 4) (k : NoticeKind) (r : Reason) (value : Nat) (v : ChairView) : ChairView :=
  v.lift (State.raise ⟨k, some i, (v.seat i).machine, r, value⟩)

/-- The answer wait's length: the yield window (R92). -/
def Configuration.answerWait (c : Configuration) : Nat := c.yieldWindow * 1000

/-- The local handover wait's length: the handover window plus the yield window (R104). -/
def Configuration.localHandover (c : Configuration) : Nat := (c.handoverWindow + c.yieldWindow) * 1000

/-! ### The Fleet View (R114 to R116) -/

/-- The record of a machine. -/
def ChairView.record (machine : Nat) (v : ChairView) : Option FleetRecord :=
  v.fleet.find? fun r => decide (r.machine = machine)

/-- A record has reached the fleet age limit (R116). -/
def FleetRecord.aged (limit now : Nat) (r : FleetRecord) : Bool := decide (limit ≤ now - r.heardAt)

/-- A machine's record removed. -/
def ChairView.removeRecord (machine : Nat) (v : ChairView) : ChairView :=
  { v with fleet := v.fleet.filter fun r => decide (r.machine ≠ machine) }

/-- The record of a machine that no seat names any longer, removed if it has aged (R116). -/
def ChairView.dropAged (machine : Nat) (v : ChairView) : ChairView :=
  { v with
    fleet := v.fleet.filter fun r =>
      !(decide (r.machine = machine) && r.aged v.config.fleetAge v.time) }

/-- Room for a new record: the oldest record that no seat names removed when 32 are held (R115). -/
def ChairView.makeRoom (v : ChairView) : List FleetRecord :=
  if v.fleet.length < Config.fleetDepth then v.fleet
  else v.fleet.eraseP fun r => (v.seatFor r.machine).isNone

/-- A BEACON's record at the newest end (R115). -/
def ChairView.hear (r : FleetRecord) (v : ChairView) : ChairView :=
  match v.record r.machine with
  | some _ => { v with fleet := (v.fleet.filter fun o => decide (o.machine ≠ r.machine)) ++ [r] }
  | none => { v with fleet := v.makeRoom ++ [r] }

/-- The Fleet View updated by a BEACON, with ORPHANED_SEEN when a record enters ORPHANED (R115). -/
def ChairView.hearBeacon (r : FleetRecord) (v : ChairView) : ChairView :=
  let entered := decide (r.state = .orphaned)
    && (v.record r.machine).all fun o => decide (o.state ≠ .orphaned)
  let v1 := v.hear r
  if entered then v1.lift (State.raise ⟨.orphanedSeen, none, r.machine, .none, r.controller⟩) else v1

/-! ### Terms (R91, R137, R138) -/

/-- The chair's terms for a machine's record with a seat limit, after an ordinary lookup, and the
fault if the lookup met one (R91). -/
def ChairView.terms (limit : Nat) (rec : FleetRecord) (v : ChairView) :
    Terms × Option ZoneFault × ChairView :=
  let r := v.zones.lookup rec.zone
  (⟨rec.zone, r.1.rights, min limit r.1.limit⟩, r.1.fault, { v with zones := r.2 })

/-- ZONE_FAULT for a held seat whose lookup faulted (R138). -/
def ChairView.faultNotice (i : Fin 4) (f : Option ZoneFault) (z : ZoneCode) (v : ChairView) : ChairView :=
  match f with
  | none => v
  | some k => v.notify i .zoneFault (faultReason k) (zoneNumber z)

/-! ### Seats freed (R87) -/

/-- A seat's claim cleared: the seat limit, the context area, the drive sequence, the ask repeat and
its terms kept (R87). -/
def Seat.clear (s : Seat) : Seat :=
  { s with
    state := .free
    machine := 0
    epoch := 0
    setpoints := Setpoints.zero
    setpointAt := none
    lastAdmitted := Terms.zero
    admitRepeat := none
    proposal := none
    transfer := none
    answerWait := none
    handoverWait := none }

/-- A seat made FREE (R87): its transfer ended at the engine, its claim cleared, its machine's record
removed if it has aged (R116). The notice of the cause is raised before. -/
def ChairView.makeFree (i : Fin 4) (v : ChairView) : ChairView :=
  let machine := (v.seat i).machine
  ((v.endSeatTransfer i false).updateSeat i Seat.clear).dropAged machine

/-- A notice and the seat FREE (R87: the notice is raised before the claim is cleared). That it also stands
before a LINE_DROP for the GO of a pending receive taken up is the model's choice (log 27). -/
def ChairView.freeWith (i : Fin 4) (k : NoticeKind) (r : Reason) (value : Nat) (v : ChairView) :
    ChairView := (v.notify i k r value).makeFree i

/-! ### Seats occupied (R92, R93, R109) -/

/-- A FREE seat occupied for a machine: drive sequence 0, ask repeat not done, the epoch of the record,
the answer wait started (R87, R92, R109). -/
def Seat.occupy (st : SeatState) (rec : FleetRecord) (t : Terms) (wait : Nat) (s : Seat) : Seat :=
  { s with
    state := st
    machine := rec.machine
    epoch := rec.epoch
    sequence := 0
    askRepeated := false
    asked := t
    lastAdmitted := t
    answerWait := some wait }

/-- A HOLDING seat that asks again (R93). -/
def Seat.reclaim (t : Terms) (wait : Nat) (s : Seat) : Seat :=
  { s with
    state := .asking
    lastAdmitted := t
    askRepeated := false
    asked := t
    proposal := none
    answerWait := some wait }

/-! ### Answers to a seat (R94) -/

/-- A seat that becomes HOLDING from ASKING, WAITING or SEIZING (R94). -/
def Seat.hold (epoch : Nat) (s : Seat) : Seat :=
  { s with state := .holding, epoch := epoch, answerWait := none }

/-- GRANTED: the seat HOLDING at an epoch (R94, R113). -/
def ChairView.granted (i : Fin 4) (epoch : Nat) (v : ChairView) : ChairView :=
  (v.notify i .granted .none epoch).updateSeat i (Seat.hold epoch)

/-! ### Re-admission (R111, R112) -/

/-- A seat re-admitted (R111): fresh terms from the record's zone, and an ADMIT when they differ from
the last admitted ones. -/
def ChairView.readmit (i : Fin 4) (v : ChairView) : ChairView :=
  match v.record (v.seat i).machine with
  | none => v
  | some rec =>
    let r := v.terms (v.seat i).limit rec
    let v1 := r.2.2.faultNotice i r.2.1 rec.zone
    if r.1 = (v.seat i).lastAdmitted then v1
    else
      (v1.sendTo (v.seat i).machine (.admission (v.seat i).epoch r.1)).updateSeat i fun s =>
        { s with lastAdmitted := r.1, admitRepeat := some r.1 }

/-- The seats re-admitted in seat index order, those HOLDING or SENDING that satisfy a test (R111,
R137). -/
def ChairView.readmitAll (p : ChairView → Fin 4 → Bool) (v : ChairView) : ChairView :=
  seatOrder.foldl (fun w i => if (w.seat i).drives && p w i then w.readmit i else w) v

/-- The seat's machine stands, by its Fleet View record, in a zone that a fence covers (R111, R133). -/
def fenceReaches (zone : Option ZonePrefix) (v : ChairView) (i : Fin 4) : Bool :=
  (v.record (v.seat i).machine).any fun r => fenceCovers zone r.zone

/-- The admit repeat at the first BEACON after the ADMIT: sent once more if the zone still matches, its terms
then the last admitted ones, and absent either way (R91, R112). -/
def ChairView.repeatAdmit (i : Fin 4) (zone : ZoneCode) (v : ChairView) : ChairView :=
  match (v.seat i).admitRepeat with
  | none => v
  | some t =>
    if t.zone = zone then
      (v.sendTo (v.seat i).machine (.admission (v.seat i).epoch t)).updateSeat i fun s =>
        { s with lastAdmitted := t, admitRepeat := none }
    else v.updateSeat i fun s => { s with admitRepeat := none }

/-- Re-admission at a BEACON whose zone differs from the last admitted zone (R111). -/
def ChairView.readmitAt (i : Fin 4) (zone : ZoneCode) (v : ChairView) : ChairView :=
  if (v.seat i).drives && decide ((v.seat i).lastAdmitted.zone ≠ zone) then v.readmit i else v

/-! ### The ends of a handover (R102, R103) -/

/-- The drive mode read from a word 0: any other value than 0, 1 or 2 is MANUAL (R33). -/
def driveMode (w : Word) : Nat := if w.toNat ≤ 2 then w.toNat else 0

/-- A SENDING seat back to HOLDING: its epoch kept, its proposal, transfer number and local handover
wait dropped (R102). -/
def Seat.backToHolding (s : Seat) : Seat :=
  { s with state := .holding, proposal := none, transfer := none, handoverWait := none }

/-- ABORTED and the SENDING seat HOLDING again (R102). Where the engine has not ended the transfer before, at a
BEACON, the notice stands before a LINE_DROP for the GO of a pending receive taken up: the model's choice (log
27). -/
def ChairView.keepSending (i : Fin 4) (r : Reason) (v : ChairView) : ChairView :=
  (((v.notify i .aborted r 1).endSeatTransfer i false)).updateSeat i Seat.backToHolding

/-- A RECEIVING seat that becomes HOLDING: drive sequence 0, last admitted terms kept (R103, log 12). -/
def Seat.commitHolding (epoch : Nat) (s : Seat) : Seat :=
  { s with state := .holding, epoch := epoch, sequence := 0, transfer := none, handoverWait := none }

/-- COMMITTED: the drive mode read from word 0 of the area, after the engine has ended the transfer,
and the seat HOLDING (R103). -/
def ChairView.committed (i : Fin 4) (epoch : Nat) (v : ChairView) : ChairView :=
  (v.notify i .committed .none (driveMode (areaWord (v.seat i).area 0))).updateSeat i
    (Seat.commitHolding epoch)

/-! ### A BEACON at the seat that names its machine (R94, R98, R102, R103, R107) -/

/-- A HOLDING seat at a BEACON: conflict (R107), or the proposal record dropped at BOUND (R98). -/
def ChairView.holdingBeacon (i : Fin 4) (rec : FleetRecord) (v : ChairView) : ChairView :=
  if rec.controller ≠ v.config.station ∨ (rec.state ≠ .transfer ∧ rec.epoch ≠ (v.seat i).epoch) then
    v.freeWith i .conflict .none rec.controller
  else
    match (v.seat i).proposal with
    | none => v
    | some p =>
      if rec.state = .bound then
        (v.notify i .proposalEnded .none p.asker).updateSeat i fun s => { s with proposal := none }
      else v

/-- A SENDING seat at a BEACON (R102, log 17). -/
def ChairView.sendingBeacon (i : Fin 4) (rec : FleetRecord) (v : ChairView) : ChairView :=
  match rec.state with
  | .proposed | .transfer => v
  | .unbound | .orphaned => v.freeWith i .aborted .machineLost 0
  | .bound =>
    if rec.controller = v.config.station then
      if rec.transfer = 0 then v.keepSending i .machineLost else v
    else if (v.seat i).proposal.any (fun p => decide (p.asker = rec.controller)) then
      v.freeWith i .handed .none rec.controller
    else v.freeWith i .aborted .machineLost 0

/-- A RECEIVING seat at a BEACON (R103). -/
def ChairView.receivingBeacon (i : Fin 4) (rec : FleetRecord) (v : ChairView) : ChairView :=
  match rec.state with
  | .transfer =>
    if (v.seat i).transfer = some rec.transfer then v else v.freeWith i .aborted .machineLost 0
  | .bound =>
    if rec.controller = v.config.station ∧ rec.epoch ≠ (v.seat i).epoch then
      (v.endSeatTransfer i true).committed i rec.epoch
    else v.freeWith i .aborted .machineLost 0
  | _ => v.freeWith i .aborted .machineLost 0

/-- A BEACON judged by the rule of the seat's state (R107, last part). -/
def ChairView.seatBeacon (i : Fin 4) (rec : FleetRecord) (v : ChairView) : ChairView :=
  match (v.seat i).state with
  | .free => v
  | .asking | .waiting | .seizing =>
    if rec.state = .bound ∧ rec.controller = v.config.station then v.granted i rec.epoch else v
  | .holding => v.holdingBeacon i rec
  | .sending => v.sendingBeacon i rec
  | .receiving => v.receivingBeacon i rec

/-- A BEACON taken (R115): the Fleet View, then the seat that names the machine by its state, then
its admit repeat (R112) and its re-admission (R111; log 16). -/
def ChairView.takeBeacon (rec : FleetRecord) (v : ChairView) : ChairView :=
  let v1 := v.hearBeacon rec
  match v1.seatFor rec.machine with
  | none => v1
  | some i => ((v1.seatBeacon i rec).repeatAdmit i rec.zone).readmitAt i rec.zone

/-! ### GRANT, REFUSE, PROPOSE (R94 to R98) -/

/-- A GRANT (R94): a seat that has asked becomes HOLDING; a GRANT that no seat names is answered with
RELEASE. -/
def ChairView.takeGrant (machine epoch : Nat) (v : ChairView) : ChairView :=
  match v.seatFor machine with
  | none => v.sendTo machine (.release epoch)
  | some i => if (v.seat i).hasAsked then v.granted i epoch else v

/-- A REFUSE (R96). -/
def ChairView.takeRefuse (machine : Nat) (r : Reason) (v : ChairView) : ChairView :=
  match v.seatFor machine with
  | none => v
  | some i => if (v.seat i).hasAsked then v.freeWith i .refused r 0 else v

/-- A PROPOSE that names this chair as asker (R95). -/
def ChairView.askerPropose (i : Fin 4) (epoch : Nat) (v : ChairView) : ChairView :=
  if (v.seat i).state = .asking then
    v.updateSeat i fun s =>
      { s with state := .waiting, epoch := epoch, answerWait := some (v.time + v.config.answerWait) }
  else v

/-- A PROPOSE to this chair as controller (R98). -/
def ChairView.controllerPropose (i : Fin 4) (asker epoch : Nat) (v : ChairView) : ChairView :=
  if (v.seat i).state = .holding ∧ (v.seat i).epoch = epoch
      ∧ (v.seat i).proposal.any (fun p => decide (p.asker = asker)) = false then
    (v.updateSeat i fun s =>
      { s with proposal := some ⟨asker, some (v.time + v.config.answerWait)⟩ }).notify i .proposal .none
        asker
  else v

/-- A PROPOSE heard from a machine (R95, R98): as asker, and as controller when it is the target. -/
def ChairView.takePropose (machine target asker epoch : Nat) (v : ChairView) : ChairView :=
  match v.seatFor machine with
  | none => v
  | some i =>
    let v1 := if asker = v.config.station then v.askerPropose i epoch else v
    if target = v.config.station then v1.controllerPropose i asker epoch else v1

/-! ### OPEN (R37, R97) -/

/-- An OPEN naming this chair as sender (R37, R97). -/
def ChairView.openAsSender (machine number receiver length : Nat) (v : ChairView) : ChairView :=
  let seat := (v.seatFor machine).filter fun i => decide ((v.seat i).state = .sending)
  let v1 :=
    match seat with
    | some i => v.updateSeat i fun s => { s with transfer := some number }
    | none => v
  if v.engine.isActive machine number then v1
  else
    match v.engine.active, seat with
    | none, some i => v1.startSender i machine number receiver length
    | _, _ => v1.sendTo machine (.abandon number .senderAbandon)

/-- A seat that becomes RECEIVING on an OPEN (R97). -/
def Seat.receive (number wait : Nat) (epoch : Option Nat) (s : Seat) : Seat :=
  { s with
    state := .receiving
    transfer := some number
    epoch := epoch.getD s.epoch
    answerWait := none
    handoverWait := some wait }

/-- An OPEN naming this chair as receiver (R37, R97). -/
def ChairView.openAsReceiver (machine number sender length : Nat) (v : ChairView) : ChairView :=
  if v.engine.isActive machine number || v.engine.isPending machine number then v
  else
    match (v.seatFor machine).filter
        fun i => decide ((v.seat i).state = .asking ∨ (v.seat i).state = .waiting) with
    | none => v.sendTo machine (.abandon number .receiverAbandon)
    | some i =>
      if v.engine.pendingReceive.isSome then v.sendTo machine (.abandon number .receiverBusy)
      else
        let v1 := v.updateSeat i
          (Seat.receive number (v.time + v.config.localHandover) ((v.record machine).map (·.epoch)))
        match v.engine.active with
        | none => v1.startReceiver ⟨machine, number, sender, length, i⟩
        | some _ => v1.setPendingReceive (some ⟨machine, number, sender, length, i⟩)

/-- An OPEN heard from a machine (R37). -/
def ChairView.takeOpen (machine number sender receiver length : Nat) (v : ChairView) : ChairView :=
  if sender = v.config.station then v.openAsSender machine number receiver length
  else if receiver = v.config.station then v.openAsReceiver machine number sender length
  else v

/-! ### COMMIT and ABORT (R38, R96, R102, R103) -/

/-- A COMMIT or ABORT matches a SENDING seat by its transfer number, or any when the seat holds none
(R102). -/
def Seat.matchesSending (number : Nat) (s : Seat) : Bool :=
  decide (s.transfer = some number ∨ s.transfer = none)

/-- A COMMIT at the seat that names the machine, after the engine has ended the transfer (R102,
R103). -/
def ChairView.seatCommit (i : Fin 4) (controller epoch number : Nat) (v : ChairView) : ChairView :=
  match (v.seat i).state with
  | .sending =>
    if (v.seat i).matchesSending number ∧ controller ≠ v.config.station then
      v.freeWith i .handed .none controller
    else v
  | .receiving =>
    if (v.seat i).transfer = some number then
      if controller = v.config.station then v.committed i epoch else v.freeWith i .aborted .machineLost 0
    else v
  | _ => v

/-- A COMMIT heard from a machine: the engine ends its transfer first, as R103 says at a RECEIVING seat; at a
SENDING seat no rule orders the two, and the order of its notices is the model's choice (R38, R102, log 27). -/
def ChairView.takeCommit (machine controller epoch number : Nat) (v : ChairView) : ChairView :=
  let v1 := v.engineHears machine number true
  match v1.seatFor machine with
  | none => v1
  | some i => v1.seatCommit i controller epoch number

/-- An ABORT at the seat that names the machine (R96, R102, R103). -/
def ChairView.seatAbort (i : Fin 4) (number : Nat) (r : Reason) (controller : Nat) (v : ChairView) :
    ChairView :=
  match (v.seat i).state with
  | .waiting => v.freeWith i .aborted r 0
  | .sending =>
    if (v.seat i).matchesSending number then
      if controller = v.config.station then v.keepSending i r else v.freeWith i .aborted r 0
    else v
  | .receiving => if (v.seat i).transfer = some number then v.freeWith i .aborted r 0 else v
  | _ => v

/-- An ABORT heard from a machine: the engine ends its transfer first, then the seat (R38, R96, R102, R103).
No rule orders the two at an ABORT, so that a LINE_DROP for the GO of a pending receive taken up stands before
the seat's notice is the model's choice (log 27). -/
def ChairView.takeAbort (machine number : Nat) (r : Reason) (controller : Nat) (v : ChairView) :
    ChairView :=
  let v1 := v.engineHears machine number false
  match v1.seatFor machine with
  | none => v1
  | some i => v1.seatAbort i number r controller

/-! ### Driving (R106) -/

/-- The demand a DRIVE carries: the seat's setpoints, or a stand when the setpoint age exceeds the host
silence limit or is none, with the steer demand kept (R106). -/
def Seat.demand (limit now : Nat) (s : Seat) : Setpoints :=
  match s.setpointAt with
  | some t => if now - t ≤ limit then s.setpoints else ⟨0, s.setpoints.steer, 0, 0, true⟩
  | none => ⟨0, s.setpoints.steer, 0, 0, true⟩

/-- One DRIVE for a seat, its sequence then one more, from 255 to 0 (R106). -/
def ChairView.driveSeat (i : Fin 4) (v : ChairView) : ChairView :=
  (v.sendTo (v.seat i).machine
      (.drive (v.seat i).epoch (v.seat i).sequence ((v.seat i).demand v.config.hostSilence v.time))).updateSeat
    i fun s => { s with sequence := (s.sequence + 1) % 256 }

/-- One DRIVE for every seat HOLDING or SENDING, in seat index order (R106). -/
def ChairView.driveAll (v : ChairView) : ChairView :=
  seatOrder.foldl (fun w i => if (w.seat i).drives then w.driveSeat i else w) v

end Sys2Proof.Machine
end

