-- ==== Sys2Proof/Machine/ChairFrames.lean ====
section
/-!
DEFINITION. Machine/ChairFrames.lean: the frames a CHAIR's blocks take from the receive FIFO (R158, R160):
the Fleet View and the Seat Table, and the Transfer Engine as sender or receiver.
-/
namespace Sys2Proof.Machine

/-- The Fleet View record a BEACON makes (R114). -/
def beaconRecord (machine now : Nat) (st : BindingCode) (controller epoch : Nat) (zone : ZoneCode)
    (ceiling : Nat) (halted : Bool) (transfer : Nat) : FleetRecord :=
  ⟨machine, st, controller, epoch, zone, ceiling, halted, transfer, now⟩

/-- BEACON (R94, R98, R102, R103, R107, R111, R112, R115). -/
def execBeacon (s : State) : Host.Outcome State Fault Refusal :=
  .next (takeOnChair
    (fun f =>
      match f.body with
      | .beacon st c e z l h t => some (ChairView.takeBeacon (beaconRecord f.source s.time st c e z l h t))
      | _ => none) s)

/-- GRANT (R94). -/
def execGrant (s : State) : Host.Outcome State Fault Refusal :=
  .next (takeOnChair
    (fun f =>
      match f.body with
      | .grant e _ => some (ChairView.takeGrant f.source e)
      | _ => none) s)

/-- REFUSE (R96). -/
def execRefuse (s : State) : Host.Outcome State Fault Refusal :=
  .next (takeOnChair
    (fun f =>
      match f.body with
      | .refuse r => some (ChairView.takeRefuse f.source r)
      | _ => none) s)

/-- PROPOSE (R95, R98). -/
def execPropose (s : State) : Host.Outcome State Fault Refusal :=
  .next (takeOnChair
    (fun f =>
      match f.body with
      | .propose a e => some (ChairView.takePropose f.source f.target a e)
      | _ => none) s)

/-- OPEN (R37, R97). -/
def execOpenTransfer (s : State) : Host.Outcome State Fault Refusal :=
  .next (takeOnChair
    (fun f =>
      match f.body with
      | .openTransfer t sd rc l => some (ChairView.takeOpen f.source t sd rc l)
      | _ => none) s)

/-! ### The two chairs' exchange -/

/-- A rule of the sender for a frame that names the active transfer, from its peer; any other is ignored
(R43, log 19). -/
def ChairView.atSender (number source : Nat) (rule : ActiveTransfer → Sender → ChairView → ChairView)
    (v : ChairView) : ChairView :=
  match v.engine.active with
  | some a =>
    if a.number = number ∧ a.peer = source then
      match a.side with
      | .sender r => rule a r v
      | .receiver _ => v
    else v
  | none => v

/-- A rule of the receiver for a frame that names the active transfer, from a station; any other is
ignored (R45, R50, R51, log 19). -/
def ChairView.atReceiver (number : Nat) (from_ : ActiveTransfer → Bool)
    (rule : ActiveTransfer → Receiver → ChairView → ChairView) (v : ChairView) : ChairView :=
  match v.engine.active with
  | some a =>
    if a.number = number ∧ from_ a = true then
      match a.side with
      | .receiver r => rule a r v
      | .sender _ => v
    else v
  | none => v

/-- The frame comes from the transfer's peer. -/
def fromPeer (source : Nat) (a : ActiveTransfer) : Bool := decide (a.peer = source)

/-- The frame comes from the transfer's machine. -/
def fromMachine (source : Nat) (a : ActiveTransfer) : Bool := decide (a.machine = source)

/-- RECEIVER_SEGMENT (R45, R48). -/
def execReceiverSegment (s : State) : Host.Outcome State Fault Refusal :=
  .next (takeOnChair
    (fun f =>
      match f.body with
      | .segment t b i ws =>
        some (ChairView.atReceiver t (fromPeer f.source) fun a r v => v.receiveSegment a r b i ws)
      | _ => none) s)

/-- RECEIVER_SUM (R50). -/
def execReceiverSum (s : State) : Host.Outcome State Fault Refusal :=
  .next (takeOnChair
    (fun f =>
      match f.body with
      | .sum t _ _ => some (ChairView.atReceiver t (fromPeer f.source) fun a r v => v.receiveSum a r)
      | _ => none) s)

/-- GO (R40). -/
def execGo (s : State) : Host.Outcome State Fault Refusal :=
  .next (takeOnChair
    (fun f =>
      match f.body with
      | .go t b j => some (ChairView.atSender t f.source fun a r v => v.senderGo a r b j)
      | _ => none) s)

/-- HOLD (R42). -/
def execHold (s : State) : Host.Outcome State Fault Refusal :=
  .next (takeOnChair
    (fun f =>
      match f.body with
      | .hold t b => some (ChairView.atSender t f.source fun a r v => v.senderHold a r b)
      | _ => none) s)

/-- STOP (R43). -/
def execStop (s : State) : Host.Outcome State Fault Refusal :=
  .next (takeOnChair
    (fun f =>
      match f.body with
      | .stop t b => some (ChairView.atSender t f.source fun a r v => v.senderStop a r b)
      | _ => none) s)

/-- LAG (R51). -/
def execLag (s : State) : Host.Outcome State Fault Refusal :=
  .next (takeOnChair
    (fun f =>
      match f.body with
      | .lag t j =>
        some (ChairView.atReceiver t (fromMachine f.source) fun a r v => v.receiveLag a r j)
      | _ => none) s)

/-- COMMIT (R38, R102, R103). -/
def execCommit (s : State) : Host.Outcome State Fault Refusal :=
  .next (takeOnChair
    (fun f =>
      match f.body with
      | .commit c e t => some (ChairView.takeCommit f.source c e t)
      | _ => none) s)

/-- ABORT (R38, R96, R102, R103). -/
def execAbort (s : State) : Host.Outcome State Fault Refusal :=
  .next (takeOnChair
    (fun f =>
      match f.body with
      | .abort t r c _ => some (ChairView.takeAbort f.source t r c)
      | _ => none) s)

end Sys2Proof.Machine
end

