-- ==== Sys2Proof/Machine/ChairTimers.lean ====
section
/-!
DEFINITION. Machine/ChairTimers.lean: the timer expiries of a CHAIR (R92, R96, R98, R102, R103, R106,
R116). An expiry of a stopped timer does not arise and leaves the state as it is; an expiry taken finds
the Time Base at its deadline or later (log 1, log 3).
-/
namespace Sys2Proof.Machine

/-- The Time Base has reached a deadline. -/
def ChairView.reach (deadline : Nat) (v : ChairView) : ChairView := v.lift (State.reach deadline)

/-- The drive period timer started again (R106). -/
def ChairView.restartDrive (v : ChairView) : ChairView :=
  { v with driveTimer := some (v.time + v.config.drivePeriod) }

/-- DRIVE_PERIOD_EXPIRY (R106). -/
def execDrivePeriodExpiry (s : State) : Host.Outcome State Fault Refusal :=
  .next (onChair
    (fun v =>
      match v.driveTimer with
      | none => v
      | some d => (v.reach d).driveAll.restartDrive) s)

/-- Half the answer wait in ms (R92; log 22). -/
def Configuration.halfAnswerWait (c : Configuration) : Nat := c.yieldWindow * 500

/-- The ASK sent once more, with the terms it first carried, which are then the last admitted ones (R91, R92). -/
def ChairView.repeatAsk (i : Fin 4) (v : ChairView) : ChairView :=
  (v.sendTo (v.seat i).machine (.ask (v.seat i).asked)).updateSeat i fun s =>
    { s with askRepeated := true, lastAdmitted := s.asked }

/-- ASK_REPEAT (R92): half the answer wait has passed with the seat still ASKING and no repeat done. -/
def execAskRepeat (seat : Fin 4) (s : State) : Host.Outcome State Fault Refusal :=
  .next (onChair
    (fun v =>
      match (v.seat seat).answerWait with
      | none => v
      | some d =>
        if (v.seat seat).state = .asking ∧ (v.seat seat).askRepeated = false then
          (v.reach (d - v.config.halfAnswerWait)).repeatAsk seat
        else v) s)

/-- ANSWER_WAIT_EXPIRY (R96). -/
def execAnswerWaitExpiry (seat : Fin 4) (s : State) : Host.Outcome State Fault Refusal :=
  .next (onChair
    (fun v =>
      match (v.seat seat).answerWait with
      | none => v
      | some d => (v.reach d).freeWith seat .refused .noAnswer 0) s)

/-- The proposal record dropped with PROPOSAL_ENDED (R98). -/
def ChairView.endProposalRecord (i : Fin 4) (asker : Nat) (v : ChairView) : ChairView :=
  (v.notify i .proposalEnded .none asker).updateSeat i fun s => { s with proposal := none }

/-- The deadline of a seat's local proposal wait with the asker, while it runs (R98, R99). -/
def Seat.proposalWait (s : Seat) : Option (Nat × Nat) :=
  match s.proposal with
  | none => none
  | some p => p.wait.map fun d => (p.asker, d)

/-- LOCAL_PROPOSAL_WAIT_EXPIRY (R98). -/
def execLocalProposalWaitExpiry (seat : Fin 4) (s : State) : Host.Outcome State Fault Refusal :=
  .next (onChair
    (fun v =>
      match (v.seat seat).proposalWait with
      | none => v
      | some p => (v.reach p.2).endProposalRecord seat p.1) s)

/-- LOCAL_HANDOVER_WAIT_EXPIRY (R102, R103, R104). -/
def execLocalHandoverWaitExpiry (seat : Fin 4) (s : State) : Host.Outcome State Fault Refusal :=
  .next (onChair
    (fun v =>
      match (v.seat seat).handoverWait with
      | none => v
      | some d => (v.reach d).freeWith seat .aborted .noAnswer 0) s)

/-- AGE_OUT (R116): a record that no seat names reaches the fleet age limit; one that a seat names stays. -/
def execAgeOut (machine : Nat) (s : State) : Host.Outcome State Fault Refusal :=
  .next (onChair
    (fun v =>
      match v.record machine with
      | none => v
      | some r =>
        if (v.seatFor machine).isSome then v
        else (v.reach (r.heardAt + v.config.fleetAge)).removeRecord machine) s)

end Sys2Proof.Machine
end

