-- ==== Sys2Proof/Machine/LineEvents.lean ====
section
/-!
DEFINITION. Machine/LineEvents.lean: the events of the Fleet Line at the Line Controller: a frame complete
(R156 to R161), the transmitter's attempts (R146 to R150, R155) and a discarded assembly (R156).
-/
namespace Sys2Proof.Machine

/-- An assembled frame judged: discarded without trace, or heard (R157, R162). -/
def State.judge (bytes : List Byte) (echo : Bool) (s : State) : State :=
  match judgeFrame bytes with
  | none => s
  | some f => s.hearFrame f echo

/-- COMPLETE_FRAME (R156, R157): the levels heard complete an assembly, and the frame is judged. `driven` says
that this station drove every bit in an attempt without a mismatch, which makes a frame of its own its echo
(R159, log 5). Levels that complete no frame leave what they leave of the assembly (log 1). -/
def execCompleteFrame (levels : List Bool) (driven : Bool) (s : State) :
    Host.Outcome State Fault Refusal :=
  let r := s.line.receive levels
  let s1 := { s with line := r.1 }
  .next
    (match r.2 with
     | none => s1
     | some bytes => s1.judge bytes driven)

/-- FRAME_START (R145, R146, R147): `bits` more bit times at the high level, then the head frame's start is
judged: a frame that starts is what LTX carries from there on (`Line.driven`), with LTE asserted. The
transmitter runs in ONLINE. -/
def execFrameStart (bits : Nat) (s : State) : Host.Outcome State Fault Refusal :=
  .next { s with line := s.line.startAfter bits }

/-- The report of a frame that has left the queue, sent or dropped: a CHAIR's engine counts a SEGMENT out
(R155, R41); the other blocks take no action. -/
def State.reportGone (f : Frame) (s : State) : State :=
  if isSegment f then onChair ChairView.segmentLeft s else s

/-- FRAME_SENT (R146, R155): the frame on the line leaves the queue; outside SENDING no frame is sent
(log 1). -/
def execFrameSent (s : State) : Host.Outcome State Fault Refusal :=
  match s.line.transmitter, s.line.queue with
  | .sending, e :: _ => .next (State.reportGone e.frame { s with line := s.line.dropHead })
  | _, _ => .next s

/-- The frame on the line dropped at its eighth collision: the report to its block, then LINE_DROP, in the
order R150 names the two. That the report's own LINE_DROP (of a SUM that a full queue refuses) therefore
stands before the one for COLLISIONS is the model's choice (log 28). -/
def State.dropCollided (e : QueuedFrame) (s : State) : State :=
  (State.reportGone e.frame { s with line := s.line.dropHead }).raise (lineDrop e.frame .collisions)

/-- MISMATCH (R148, R150): the attempt ends; the eighth collision drops the frame, an earlier one puts it
back with its backoff draw; outside SENDING none arises (log 1). -/
def execMismatch (s : State) : Host.Outcome State Fault Refusal :=
  match s.line.transmitter, s.line.queue with
  | .sending, e :: _ =>
    if Config.collisionMost ≤ e.collisions + 1 then .next (s.dropCollided e)
    else .next { s with line := s.line.retryHead }
  | _, _ => .next s

/-- BACKOFF_END (R149): `slots` more slots counted. -/
def execBackoffEnd (slots : Nat) (s : State) : Host.Outcome State Fault Refusal :=
  .next { s with line := s.line.countSlots slots }

/-- RECEIVE_ASSEMBLY_DISCARDED (R156): the activity heard has ended short of a frame. No assembly and no trace is
left; the quiet count, which a new one needs at 8, stands as the levels heard have left it (R142). -/
def execReceiveAssemblyDiscarded (s : State) : Host.Outcome State Fault Refusal :=
  .next { s with line := { s.line with assembly := none } }

end Sys2Proof.Machine
end

