-- ==== Sys2Proof/Machine/BindingUnit.lean ====
section
/-!
DEFINITION. Machine/BindingUnit.lean: the MACHINE's Binding Unit: what it sends (R5, R29, R30), its
lookups of the machine zone (R2, R135, R136), admission and binding (R8, R9), the proposal (R11 to
R18), unbinding (R19, R31), the heartbeat (R26 to R28), the witness (R53 to R57) and the end of a
transfer (R58 to R60).
-/
namespace Sys2Proof.Machine

/-! ### Frames and notices of the Binding Unit -/

/-- The code of a binding state (R175). -/
def stateCode : BindingState → BindingCode
  | .unbound => .unbound
  | .bound => .bound
  | .proposed _ => .proposed
  | .transfer _ => .transfer
  | .orphaned => .orphaned

/-- The transfer number a BEACON carries: of the current transfer, or 0 (R29). -/
def stateTransfer : BindingState → Nat
  | .transfer r => r.number
  | _ => 0

/-- A frame queued by the Binding Unit to a target (R5). -/
def MachineView.sendTo (target : Nat) (b : Body) (v : MachineView) : MachineView :=
  v.lift (State.send ⟨v.config.station, target, b⟩)

/-- A frame queued to all stations (R5). -/
def MachineView.sendAll (b : Body) (v : MachineView) : MachineView := v.sendTo Config.allStations b

/-- The zone a frame names for the machine zone: 0.0.0 while unreported (R29). -/
def Binding.zoneSent (b : Binding) : ZoneCode := b.machineZone.getD ZoneCode.zero

/-- The BEACON of the record and the gate as they stand (R29). -/
def beaconBody (b : Binding) (g : DriveGate) : Body :=
  .beacon (stateCode b.state) b.controller b.epoch b.zoneSent g.ceiling g.halted (stateTransfer b.state)

/-- A BEACON queued, and the beacon period restarted, whether or not the queue takes it (R30). -/
def MachineView.beacon (v : MachineView) : MachineView :=
  let v1 := v.sendAll (beaconBody v.binding v.gate)
  { v1 with binding := { v1.binding with beaconTimer := some (v.time + v.config.beaconPeriod) } }

/-- The BINDING notice of a change of binding state (R6), raised after the frames of its event are queued: that
a LINE_DROP of one of them stands before it is the model's choice (log 11). -/
def MachineView.bindingNotice (v : MachineView) : MachineView :=
  v.lift (State.raise
    ⟨.binding, none, v.binding.controller, .bindingState (stateCode v.binding.state), v.binding.epoch⟩)

/-- REFUSE with a reason, to an asker or seizer (R5). -/
def MachineView.refuse (target : Nat) (r : Reason) (v : MachineView) : MachineView :=
  v.sendTo target (.refuse r)

/-! ### The machine zone (R2, R135, R136) -/

/-- The station's own lookup of the machine zone: the stored result replaced, the gate recomputed,
and ZONE_FAULT raised at a fault if the stored mark was clear or this event moved the zone. None is
made while the zone is unreported. -/
def MachineView.lookupZone (moved : Bool) (v : MachineView) : MachineView :=
  match v.binding.machineZone with
  | none => v
  | some z =>
    let r := v.zones.lookup z
    let v1 := { v with
      zones := r.2
      binding := { v.binding with zoneResult := ⟨r.1.rights, r.1.limit, r.1.fault.isSome⟩ } }
    let v2 :=
      match r.1.fault with
      | none => v1
      | some f =>
        if !v.binding.zoneResult.fault || moved then
          v1.lift (State.raise ⟨.zoneFault, none, 0, faultReason f, zoneNumber z⟩)
        else v1
    v2.recompute

/-- The admission checks on the stored result, after the lookup (R8): the reason of the refusal, or
none when the frame is admitted. -/
def admissionRefusal (b : Binding) (t : Terms) : Option Reason :=
  if b.machineZone ≠ some t.zone then some .zoneChanged
  else if !(rightsInter t.rights b.zoneResult.rights).drive then some .notAdmitted
  else none

/-! ### Binding a chair (R7, R9, R20, R58) -/

/-- The next epoch: one more, from 65535 to 1 (R7). -/
def nextEpoch (e : Nat) : Nat := if e = 65535 then 1 else e + 1

/-- The admitted fields of terms. -/
def Binding.admitTerms (t : Terms) (b : Binding) : Binding :=
  { b with admittedZone := t.zone, admittedRights := t.rights, admittedLimit := t.limit }

/-- The admitted limit capped at the crawl floor when the admitted zone is not the machine zone
(R20 step 3, R58 step 2, R32). -/
def Binding.capIfMoved (floor : Nat) (b : Binding) : Binding :=
  if b.machineZone = some b.admittedZone then b else { b with admittedLimit := min b.admittedLimit floor }

/-- The record of a newly bound chair: controller, next epoch, admitted fields, context cap, m = 0,
seen flag clear, heartbeat restarted, BOUND (R7, R9, R20, R58). -/
def Binding.bound (chair : Nat) (t : Terms) (cap : Nat) (beat : Nat) (b : Binding) : Binding :=
  { b.admitTerms t with
    state := .bound
    controller := chair
    epoch := nextEpoch b.epoch
    contextCap := cap
    misses := 0
    seen := false
    heartbeat := some beat }

/-- A chair newly bound: the record, a still slot (R77), a strobe pulse (R84), no ramp (R68) and the
recomputed ceiling (R65). -/
def MachineView.bindChair (chair : Nat) (t : Terms) (cap : Nat) (v : MachineView) : MachineView :=
  let v1 := { v with
    binding := (v.binding.bound chair t cap (v.time + v.config.heartbeat)).capIfMoved v.config.crawlFloor
    gate := (v.gate.zeroDemand.endRamp).pulse v.config v.time }
  v1.recompute

/-- GRANT at the record's epoch with the machine zone, then a BEACON (R9 step 7, R11, R20 step 8). -/
def MachineView.grantTo (chair : Nat) (v : MachineView) : MachineView :=
  (v.sendTo chair (.grant v.binding.epoch v.binding.zoneSent)).beacon

/-- A chair bound directly: an UNBOUND machine, a reclaim, a seize (R9), or a grant by RELEASE from
the stored ASK fields (R20). Where the zone check has just passed the cap of R20 changes nothing. -/
def MachineView.bindAndGrant (chair : Nat) (t : Terms) (v : MachineView) : MachineView :=
  ((v.bindChair chair t 250).grantTo chair).bindingNotice

/-- An ASK or SEIZE through the admission checks, and bound if admitted (R8, R9, R10, R13, R21). -/
def MachineView.admitOrRefuse (chair : Nat) (t : Terms) (v : MachineView) : MachineView :=
  let v1 := v.lookupZone false
  match admissionRefusal v1.binding t with
  | some r => v1.refuse chair r
  | none => v1.bindAndGrant chair t

/-! ### The proposal (R11 to R18) -/

/-- The binding state changed, and the ceiling recomputed at once, before the event's BEACON (R29, R65, log
10). -/
def MachineView.enter (st : BindingState) (v : MachineView) : MachineView :=
  let v1 := { v with binding := { v.binding with state := st } }
  v1.recompute

/-- An ASK by another chair at a BOUND machine: the checks, then a proposal (R11). -/
def MachineView.proposeFor (asker : Nat) (t : Terms) (v : MachineView) : MachineView :=
  let v1 := v.lookupZone false
  match admissionRefusal v1.binding t with
  | some r => v1.refuse asker r
  | none =>
    let v2 := v1.enter (.proposed ⟨asker, t, v1.time + v1.config.yieldWindow * 1000⟩)
    ((v2.sendTo v2.binding.controller (.propose asker v2.binding.epoch)).beacon).bindingNotice

/-- A proposal ended with a REFUSE to its asker, the machine BOUND again (R17, R18). -/
def MachineView.endProposal (p : Proposal) (r : Reason) (v : MachineView) : MachineView :=
  (((v.enter .bound).refuse p.asker r).beacon).bindingNotice

/-! ### The heartbeat (R26) -/

/-- A resetting frame: m = 0 and the seen flag set, the ceiling recomputed (R26). -/
def MachineView.resetting (v : MachineView) : MachineView :=
  let v1 := { v with binding := { v.binding with misses := 0, seen := true } }
  v1.recompute

/-- A frame from the controller at the current epoch: source, epoch and a bound state (R4). -/
def fromController (b : Binding) (source epoch : Nat) : Bool :=
  decide (source = b.controller) && decide (epoch = b.epoch) && !standing b.state

/-! ### Unbinding (R19, R31) -/

/-- The record of an unbound machine: the epoch and the machine zone kept (R19, R31). -/
def Binding.unbound (b : Binding) : Binding :=
  { b.admitTerms Terms.zero with
    state := .unbound
    controller := 0
    misses := 0
    seen := false
    contextCap := 250
    heartbeat := none }

/-- The machine UNBOUND: the record, a still slot (R77), the ceiling 0, a BEACON and the notice. -/
def MachineView.unbind (v : MachineView) : MachineView :=
  let v1 := { v with binding := v.binding.unbound, gate := v.gate.zeroDemand.endRamp }
  (v1.recompute.beacon).bindingNotice

/-! ### The transfer -/

/-- The next transfer number: one more, from 255 to 1 (R15 step 1). -/
def nextTransfer (n : Nat) : Nat := if n = 255 then 1 else n + 1

/-- The transfer record of a YIELD: sender the controller, receiver the asker, the witness fields at
their starting values (R15, R53). -/
def openRecord (b : Binding) (p : Proposal) (length startCeiling deadline : Nat) : TransferRecord where
  number := nextTransfer b.transferCounter
  sender := b.controller
  receiver := p.asker
  length := length
  admission := p.terms
  witnessIndex := 0
  witnessSum := crcInit
  witnessedLimit := none
  senderSum := none
  lagCount := 0
  lastLagBurst := none
  firstError := none
  deadline := deadline
  startCeiling := startCeiling

/-- A YIELD in PROPOSED opens a transfer (R15): C0 is the ceiling before the YIELD acts on m, the
ramp starts from it, and the YIELD counts as a resetting frame. -/
def MachineView.openTransfer (p : Proposal) (length : Nat) (v : MachineView) : MachineView :=
  let r := openRecord v.binding p length v.gate.ceiling (v.time + v.config.handoverWindow * 1000)
  let v1 := { v with
    binding := { v.binding with
      state := .transfer r
      transferCounter := r.number
      misses := 0
      seen := true }
    gate := v.gate.startRamp v.config v.time v.gate.ceiling }
  let v2 := v1.recompute
  ((v2.sendAll (.openTransfer r.number r.sender r.receiver r.length)).beacon).bindingNotice

/-- The reason of an abort: the first error if one is recorded, else the cause (R59). -/
def abortReason (r : TransferRecord) (cause : Reason) : Reason := r.firstError.getD cause

/-- The first part of an abort (R60 steps 1 to 3): the record and the ramp gone, BOUND with the
sender, and the ABORT queued with the resulting controller it is to carry. -/
def MachineView.abortTransfer (r : TransferRecord) (cause : Reason) (resulting : Nat)
    (v : MachineView) : MachineView :=
  let v1 := { v with
    binding := { v.binding with state := .bound, controller := r.sender }
    gate := v.gate.endRamp }
  v1.recompute.sendAll (.abort r.number (abortReason r cause) resulting v.binding.epoch)

/-- A transfer aborted to BOUND: the ABORT, a BEACON, the notice (R60). -/
def MachineView.abortToBound (r : TransferRecord) (cause : Reason) (v : MachineView) : MachineView :=
  ((v.abortTransfer r cause r.sender).beacon).bindingNotice

/-- A transfer committed (R58): the receiver bound with its stored admission and the witnessed
context limit as cap, COMMIT to all stations, a BEACON, the notice. -/
def MachineView.commitTransfer (r : TransferRecord) (v : MachineView) : MachineView :=
  let v1 := v.bindChair r.receiver r.admission (r.witnessedLimit.getD 250)
  ((v1.sendAll (.commit r.receiver v1.binding.epoch r.number)).beacon).bindingNotice

/-- The transfer record replaced, the state TRANSFER. -/
def MachineView.setRecord (r : TransferRecord) (v : MachineView) : MachineView :=
  { v with binding := { v.binding with state := .transfer r } }

/-- A LAG naming a word index to the receiver, the LAG count raised; at the fifth the transfer aborts
with WITNESS_GAP instead (R55, R57). -/
def MachineView.lagOrAbort (r : TransferRecord) (index : Nat) (v : MachineView) : MachineView :=
  if r.lagCount + 1 < Config.lagMost then
    (v.setRecord { r with lagCount := r.lagCount + 1 }).sendTo r.receiver (.lag r.number index)
  else v.abortToBound { r with lagCount := r.lagCount + 1 } .witnessGap

/-- The context limit a witnessed word 1 gives: above 250 taken as 250 (R33, R54). -/
def limitWord (w : Word) : Nat := min w.toNat 250

/-- The witness takes words at its index (R54): they enter the sum in order, the index rises, and
word 1, if among them, gives the witnessed context limit. -/
def witnessFold (words : List Word) (r : TransferRecord) : TransferRecord :=
  let taken := wordsBelow r.length r.witnessIndex words
  { r with
    witnessSum := crcWords r.witnessSum taken
    witnessIndex := min (r.witnessIndex + words.length) r.length
    witnessedLimit :=
      if r.witnessIndex ≤ 1 then
        match taken[1 - r.witnessIndex]? with
        | some w => some (limitWord w)
        | none => r.witnessedLimit
      else r.witnessedLimit }

/-- A SEGMENT of the current transfer from its sender, judged by the witness (R54, R55). -/
def MachineView.witness (r : TransferRecord) (burst index : Nat) (words : List Word)
    (v : MachineView) : MachineView :=
  if r.witnessIndex = r.length then v
  else if index = r.witnessIndex then v.setRecord (witnessFold words r)
  else if index < r.witnessIndex then v
  else if r.lastLagBurst = some burst then v
  else v.lagOrAbort { r with lastLagBurst := some burst } r.witnessIndex

/-- A SUM of the current transfer from its sender (R56): the sender sum stored, and CONTEXT_MISMATCH
recorded as first error for a differing length, or a differing sum with all words witnessed. -/
def witnessSum (length : Nat) (sum : Word) (r : TransferRecord) : TransferRecord :=
  let wrong := length ≠ r.length ∨ (r.witnessIndex = r.length ∧ sum ≠ r.witnessSum)
  { r with
    senderSum := some sum
    firstError :=
      match r.firstError with
      | some e => some e
      | none => if wrong then some .contextMismatch else none }

/-- An ACCEPT of the current transfer from its receiver, judged (R57). -/
def MachineView.judgeAccept (r : TransferRecord) (sum : Word) (v : MachineView) : MachineView :=
  match r.firstError with
  | some e => v.abortToBound r e
  | none =>
    if r.witnessIndex < r.length then v.lagOrAbort r r.witnessIndex
    else
      match r.senderSum with
      | none => v.lagOrAbort r (r.length - 1)
      | some σ =>
        if σ = sum ∧ sum = r.witnessSum then v.commitTransfer r
        else v.abortToBound r .contextMismatch

/-! ### Orphaning (R28) -/

/-- The ORPHANED state: heartbeat stopped, controller, epoch and admitted fields kept, a still slot
(R77), a BEACON and the notice. -/
def MachineView.becomeOrphaned (v : MachineView) : MachineView :=
  let v1 := { v with
    binding := { v.binding with state := .orphaned, heartbeat := none }
    gate := v.gate.zeroDemand.endRamp }
  (v1.recompute.beacon).bindingNotice

/-- Orphaning at the miss limit (R28): a proposal refused first, a transfer aborted first with an
ABORT that names no resulting controller (R60). In TRANSFER there are two BINDING notices; that a LINE_DROP of
the one BEACON stands between them is the model's choice (log 11). -/
def MachineView.orphan (v : MachineView) : MachineView :=
  match v.binding.state with
  | .proposed p => (v.refuse p.asker .yieldTimeout).becomeOrphaned
  | .transfer r => ((v.abortTransfer r .senderSilent 0).bindingNotice).becomeOrphaned
  | _ => v.becomeOrphaned

/-- The heartbeat interval has ended (R27): m rises if the seen flag is clear, the flag is cleared,
the timer runs on, and at the miss limit the machine is orphaned. -/
def MachineView.heartbeatEnd (v : MachineView) : MachineView :=
  let v1 := { v with
    binding := { v.binding with
      misses := if v.binding.seen then v.binding.misses else v.binding.misses + 1
      seen := false
      heartbeat := some (v.time + v.config.heartbeat) } }
  if v1.config.missLimit ≤ v1.binding.misses then v1.recompute.orphan else v1.recompute

end Sys2Proof.Machine
end

