-- ==== Sys2Proof/Machine/MachineCommands.lean ====
section
/-!
DEFINITION. Machine/MachineCommands.lean: the commands of a MACHINE's host: POSITION (R32), LOCAL HALT and
LOCAL RESUME (R79, R80), CLEAR BINDING (R31) and SLOT READ (R78).
-/
namespace Sys2Proof.Machine

/-- A machine's answer with no data. -/
def machineAnswer (code : ResponseCode) (v : MachineView) : MachineAnswer := (v, code, [])

/-- The binding record at a new machine zone: the admitted limit capped at K in BOUND, PROPOSED and
TRANSFER (R32, R72). -/
def Binding.moveTo (z : ZoneCode) (floor : Nat) (b : Binding) : Binding :=
  { b with
    machineZone := some z
    admittedLimit := if standing b.state then b.admittedLimit else min b.admittedLimit floor }

/-- A reported zone: nothing for the zone the machine is in, else the zone set, looked up and the limit
capped (R32). -/
def MachineView.position (z : ZoneCode) (v : MachineView) : MachineView :=
  if v.binding.machineZone = some z then v
  else ({ v with binding := v.binding.moveTo z v.config.crawlFloor } : MachineView).lookupZone true

/-- POSITION's local part (R32, R177). -/
def MachineView.positionCommand (number : Nat) (v : MachineView) : MachineAnswer :=
  match zoneOf number with
  | none => machineAnswer .badParameter v
  | some z => machineAnswer .ok (v.position z)

/-- POSITION (R32). -/
def execPosition (params : List Byte) (s : State) : Host.Outcome State Fault Refusal :=
  .next (hostCommand machineListening (decide (2 ≤ params.length)) none
    (answerMachine (MachineView.positionCommand (param2 params 0))) s)

/-- LOCAL_HALT (R79). -/
def execLocalHalt (_params : List Byte) (s : State) : Host.Outcome State Fault Refusal :=
  .next (hostCommand machineOnline true none
    (answerMachine fun v => machineAnswer .ok (v.setLatch 0)) s)

/-- LOCAL_RESUME (R80). -/
def execLocalResume (_params : List Byte) (s : State) : Host.Outcome State Fault Refusal :=
  .next (hostCommand machineOnline true none
    (answerMachine fun v => machineAnswer .ok (v.clearLatch 0)) s)

/-- CLEAR BINDING in each binding state (R31, R60, R14). In TRANSFER there are two BINDING notices; that a LINE_DROP
of the one BEACON stands between them is the model's choice (log 11). -/
def MachineView.clearBinding (v : MachineView) : MachineView :=
  match v.binding.state with
  | .unbound => v
  | .transfer r => ((v.abortTransfer r .localClear r.sender).bindingNotice).unbind
  | .proposed p => (v.refuse p.asker .declined).unbind
  | .bound | .orphaned => v.unbind

/-- CLEAR_BINDING (R31). -/
def execClearBinding (_params : List Byte) (s : State) : Host.Outcome State Fault Refusal :=
  .next (hostCommand machineOnline true none
    (answerMachine fun v => machineAnswer .ok v.clearBinding) s)

/-- SLOT_READ (R78). -/
def execSlotRead (_params : List Byte) (s : State) : Host.Outcome State Fault Refusal :=
  .next (hostCommand machineListening true none
    (answerMachine fun v => (v, .ok, slotRecord v.time v.gate)) s)

end Sys2Proof.Machine
end

