-- ==== Sys2Proof/Machine/MachineFrames.lean ====
section
/-!
DEFINITION. Machine/MachineFrames.lean: the frames a MACHINE's Binding Unit takes from the receive FIFO
(R4), each judged against the binding record.
-/
namespace Sys2Proof.Machine

/-! ### ASK and SEIZE (R10 to R13, R21) -/

/-- An ASK by the binding state (R10 to R13). -/
def MachineView.takeAsk (asker : Nat) (t : Terms) (v : MachineView) : MachineView :=
  match v.binding.state with
  | .unbound => v.admitOrRefuse asker t
  | .bound => if asker = v.binding.controller then v.grantTo asker else v.proposeFor asker t
  | .proposed p =>
    if asker = p.asker then v.sendTo v.binding.controller (.propose asker v.binding.epoch)
    else v.refuse asker .busy
  | .transfer _ => v.refuse asker .busy
  | .orphaned =>
    if asker = v.binding.controller then v.admitOrRefuse asker t else v.refuse asker .seizeRequired

/-- ASK (R10 to R13). -/
def execAsk (s : State) : Host.Outcome State Fault Refusal :=
  .next (takeOnMachine
    (fun f =>
      match f.body with
      | .ask t => some (MachineView.takeAsk f.source t)
      | _ => none) s)

/-- A SEIZE by the binding state (R21). -/
def MachineView.takeSeize (seizer : Nat) (t : Terms) (v : MachineView) : MachineView :=
  match v.binding.state with
  | .orphaned => v.admitOrRefuse seizer t
  | _ => v.refuse seizer .notOrphaned

/-- SEIZE_FRAME (R21). -/
def execSeizeFrame (s : State) : Host.Outcome State Fault Refusal :=
  .next (takeOnMachine
    (fun f =>
      match f.body with
      | .seize t => some (MachineView.takeSeize f.source t)
      | _ => none) s)

/-! ### Frames from the controller at the current epoch (R4, R15 to R20, R22, R23, R25) -/

/-- A rule for a frame from the controller at the current epoch; any other is ignored (R4). -/
def MachineView.ifController (source epoch : Nat) (rule : MachineView → MachineView) (v : MachineView) :
    MachineView :=
  if fromController v.binding source epoch then rule v else v

/-- A YIELD from the controller (R15, R16). -/
def MachineView.controllerYield (length : Nat) (v : MachineView) : MachineView :=
  match v.binding.state with
  | .proposed p => v.openTransfer p length
  | _ => v.resetting

/-- YIELD (R15, R16). -/
def execYield (s : State) : Host.Outcome State Fault Refusal :=
  .next (takeOnMachine
    (fun f =>
      match f.body with
      | .yield e l => some (MachineView.ifController f.source e (MachineView.controllerYield l))
      | _ => none) s)

/-- A DECLINE from the controller (R17). -/
def MachineView.controllerDecline (v : MachineView) : MachineView :=
  match v.binding.state with
  | .proposed p => v.resetting.endProposal p .declined
  | _ => v.resetting

/-- DECLINE (R17). -/
def execDecline (s : State) : Host.Outcome State Fault Refusal :=
  .next (takeOnMachine
    (fun f =>
      match f.body with
      | .decline e => some (MachineView.ifController f.source e MachineView.controllerDecline)
      | _ => none) s)

/-- A RELEASE from the controller (R19, R20): ignored in TRANSFER, and no resetting frame (R26). -/
def MachineView.controllerRelease (v : MachineView) : MachineView :=
  match v.binding.state with
  | .bound => v.unbind
  | .proposed p => v.bindAndGrant p.asker p.terms
  | _ => v

/-- RELEASE (R19, R20). -/
def execRelease (s : State) : Host.Outcome State Fault Refusal :=
  .next (takeOnMachine
    (fun f =>
      match f.body with
      | .release e => some (MachineView.ifController f.source e MachineView.controllerRelease)
      | _ => none) s)

/-- An ADMIT from the controller (R22): its terms replace the admitted fields when it names the machine
zone. -/
def MachineView.controllerAdmit (t : Terms) (v : MachineView) : MachineView :=
  if v.binding.machineZone = some t.zone then
    ({ v with binding := v.binding.admitTerms t } : MachineView).resetting
  else v.resetting

/-- ADMIT (R22). -/
def execAdmitFrame (s : State) : Host.Outcome State Fault Refusal :=
  .next (takeOnMachine
    (fun f =>
      match f.body with
      | .admission e t => some (MachineView.ifController f.source e (MachineView.controllerAdmit t))
      | _ => none) s)

/-- DRIVE (R23, R74). -/
def execDrive (s : State) : Host.Outcome State Fault Refusal :=
  .next (takeOnMachine
    (fun f =>
      match f.body with
      | .drive e q d =>
        some (MachineView.ifController f.source e fun v => v.resetting.acceptDemand q d)
      | _ => none) s)

/-- HALT (R24, R79). -/
def execHalt (s : State) : Host.Outcome State Fault Refusal :=
  .next (takeOnMachine
    (fun f =>
      match f.body with
      | .halt => some (MachineView.setLatch f.source)
      | _ => none) s)

/-- RESUME (R25, R80). -/
def execResume (s : State) : Host.Outcome State Fault Refusal :=
  .next (takeOnMachine
    (fun f =>
      match f.body with
      | .resume e =>
        some (MachineView.ifController f.source e fun v => v.resetting.clearLatch f.source)
      | _ => none) s)

/-! ### Frames of the current transfer (R53 to R62) -/

/-- A rule for a frame that names the current transfer, in TRANSFER; any other is ignored. -/
def MachineView.ifTransfer (number : Nat) (rule : TransferRecord → MachineView → MachineView)
    (v : MachineView) : MachineView :=
  match v.binding.state with
  | .transfer r => if r.number = number then rule r v else v
  | _ => v

/-- WITNESS_SEGMENT (R54, R55): from the transfer's sender, a resetting frame and the witness's. -/
def execWitnessSegment (s : State) : Host.Outcome State Fault Refusal :=
  .next (takeOnMachine
    (fun f =>
      match f.body with
      | .segment t b i ws =>
        some (MachineView.ifTransfer t fun r v =>
          if f.source = r.sender then v.resetting.witness r b i ws else v)
      | _ => none) s)

/-- WITNESS_SUM (R56): from the transfer's sender, a resetting frame and the witness's. -/
def execWitnessSum (s : State) : Host.Outcome State Fault Refusal :=
  .next (takeOnMachine
    (fun f =>
      match f.body with
      | .sum t l w =>
        some (MachineView.ifTransfer t fun r v =>
          if f.source = r.sender then v.resetting.setRecord (witnessSum l w r) else v)
      | _ => none) s)

/-- ACCEPT (R57): from the transfer's receiver. -/
def execAccept (s : State) : Host.Outcome State Fault Refusal :=
  .next (takeOnMachine
    (fun f =>
      match f.body with
      | .accept t w =>
        some (MachineView.ifTransfer t fun r v =>
          if f.source = r.receiver then v.judgeAccept r w else v)
      | _ => none) s)

/-- The cause an ABANDON gives (R62): of the sender always SENDER_ABANDON; of the receiver RECEIVER_BUSY
when it carries it, else RECEIVER_ABANDON. -/
def abandonCause (r : TransferRecord) (source : Nat) (reason : Reason) : Option Reason :=
  if source = r.sender then some .senderAbandon
  else if source = r.receiver then
    some (if reason = .receiverBusy then .receiverBusy else .receiverAbandon)
  else none

/-- An ABANDON of the current transfer (R62). -/
def MachineView.takeAbandon (source : Nat) (reason : Reason) (r : TransferRecord) (v : MachineView) :
    MachineView :=
  match abandonCause r source reason with
  | some cause => v.abortToBound r cause
  | none => v

/-- ABANDON (R62). -/
def execAbandon (s : State) : Host.Outcome State Fault Refusal :=
  .next (takeOnMachine
    (fun f =>
      match f.body with
      | .abandon t reason => some (MachineView.ifTransfer t (MachineView.takeAbandon f.source reason))
      | _ => none) s)

end Sys2Proof.Machine
end

