-- ==== Sys2Proof/Machine/MachineTimers.lean ====
section
/-!
DEFINITION. Machine/MachineTimers.lean: the timer expiries of a MACHINE (R18, R27, R30, R61, R69, R84). An
expiry of a stopped timer does not arise and leaves the state as it is; an expiry taken finds the Time
Base at its deadline or later (log 1, log 3).
-/
namespace Sys2Proof.Machine

/-- A timer's expiry taken at its deadline, if the timer runs. -/
def MachineView.expire (deadline : Option Nat) (rule : MachineView → MachineView) (v : MachineView) :
    MachineView :=
  match deadline with
  | none => v
  | some d => rule (v.lift (State.reach d))

/-- HEARTBEAT_EXPIRY (R27, R28). -/
def execHeartbeatExpiry (s : State) : Host.Outcome State Fault Refusal :=
  .next (onMachine (fun v => v.expire v.binding.heartbeat MachineView.heartbeatEnd) s)

/-- The yield window has run out (R18); outside PROPOSED it does not run. -/
def MachineView.yieldWindowEnd (v : MachineView) : MachineView :=
  match v.binding.state with
  | .proposed p => (v.lift (State.reach p.deadline)).endProposal p .yieldTimeout
  | _ => v

/-- YIELD_WINDOW_EXPIRY (R18). -/
def execYieldWindowExpiry (s : State) : Host.Outcome State Fault Refusal :=
  .next (onMachine MachineView.yieldWindowEnd s)

/-- The handover window has run out (R61); outside TRANSFER it does not run. -/
def MachineView.handoverWindowEnd (v : MachineView) : MachineView :=
  match v.binding.state with
  | .transfer r => (v.lift (State.reach r.deadline)).abortToBound r .windowExpired
  | _ => v

/-- HANDOVER_WINDOW_EXPIRY (R61). -/
def execHandoverWindowExpiry (s : State) : Host.Outcome State Fault Refusal :=
  .next (onMachine MachineView.handoverWindowEnd s)

/-- BEACON_PERIOD_EXPIRY (R30). -/
def execBeaconPeriodExpiry (s : State) : Host.Outcome State Fault Refusal :=
  .next (onMachine (fun v => v.expire v.binding.beaconTimer MachineView.beacon) s)

/-- A ramp after one expiry: n one more, held at 255, its timer started again (R69). -/
def Ramp.expire (now interval : Nat) (r : Ramp) : Ramp :=
  { r with expiries := min 255 (r.expiries + 1), deadline := now + interval }

/-- The ramp timer has run out (R69). -/
def MachineView.rampEnd (r : Ramp) (v : MachineView) : MachineView :=
  ({ v with gate := { v.gate with ramp := some (r.expire v.time v.config.rampInterval) } } :
    MachineView).recompute

/-- RAMP_TIMER_EXPIRY (R69). -/
def execRampTimerExpiry (s : State) : Host.Outcome State Fault Refusal :=
  .next (onMachine
    (fun v =>
      match v.gate.ramp with
      | none => v
      | some r => (v.lift (State.reach r.deadline)).rampEnd r) s)

/-- The strobe timer has run out (R84). -/
def MachineView.strobeEnd (v : MachineView) : MachineView :=
  ({ v with gate := { v.gate with strobeTimer := none } } : MachineView).recompute

/-- STROBE_TIMER_EXPIRY (R84). -/
def execStrobeTimerExpiry (s : State) : Host.Outcome State Fault Refusal :=
  .next (onMachine (fun v => v.expire v.gate.strobeTimer MachineView.strobeEnd) s)

end Sys2Proof.Machine
end

