-- ==== Sys2Proof/Machine/PortCommands.lean ====
section
/-!
DEFINITION. Machine/PortCommands.lean: the host transaction on SDI (R176), the commands the port itself owns
(STATUS READ, NOTICE READ: R189, R190, R194, R195) and the transactions that execute no command (R176).
-/
namespace Sys2Proof.Machine

/-! ### The host transaction on SDI (R176) -/

/-- The complete bytes of a transaction, from the levels of SDI at its clocks: eight a byte, most significant
bit first; a last byte of fewer clocks is not counted (R176). -/
def sdiBytes : List Bool → List Byte
  | b7 :: b6 :: b5 :: b4 :: b3 :: b2 :: b1 :: b0 :: rest =>
    heardByte [b7, b6, b5, b4, b3, b2, b1, b0] :: sdiBytes rest
  | _ => []

/-- The row that a transaction is when SCS_N goes high, from the levels of SDI at its clocks (R176, R177). -/
def commandOnSdi (levels : List Bool) : Instr := commandOfTransaction (sdiBytes levels)

/-- A transaction that ends: the row it is joins the commands that wait (R183, log 1). -/
def State.hostTransaction (levels : List Bool) (s : State) : State :=
  { s with pending := s.pending ++ [commandOnSdi levels] }

/-- EMPTY_TRANSACTION (R176): no command is taken and the pending response stands. -/
def execEmptyTransaction (s : State) : Host.Outcome State Fault Refusal :=
  .next { s with port := { s.port with transaction := none } }

/-- UNKNOWN_COMMAND (R176, R185): a command taken, answered UNKNOWN_COMMAND. -/
def execUnknownCommand (_code : Byte) (_params : List Byte) (s : State) :
    Host.Outcome State Fault Refusal :=
  .next (s.commandTaken.respond .unknownCommand [])

/-- STATUS READ's local part (R189, R190, R194): the record and the notice-overrun flag as the command
found them, the flags it returns cleared, the clear step opened if the overrun was returned set. -/
def State.statusRead (record : List Byte) (s : State) : Answer :=
  let s1 := s.clearStatusFlags
  ({ s1 with notices := { s1.notices with clearStep := s1.notices.overrun } }, .ok, record)

/-- STATUS_READ (R189). -/
def execStatusRead (_params : List Byte) (s : State) : Host.Outcome State Fault Refusal :=
  .next (hostCommand everywhere true none (State.statusRead s.statusRecord) s)

/-- The notice queue after a NOTICE READ: its oldest notice gone, and the overrun flag cleared if the
clear step was open (R194, R195). -/
def Notices.read (clearStep : Bool) (n : Notices) : Notices :=
  { n with queue := n.queue.tail, overrun := n.overrun && !clearStep }

/-- The record a NOTICE READ returns: the oldest notice, or the empty marker (R180, R195). -/
def Notices.oldest (n : Notices) : List Byte :=
  match n.queue with
  | [] => emptyMarker
  | x :: _ => noticeRecord x

/-- NOTICE READ's local part; `clearStep` as the command found it. -/
def State.noticeRead (clearStep : Bool) (s : State) : Answer :=
  ({ s with notices := s.notices.read clearStep }, .ok, s.notices.oldest)

/-- NOTICE_READ (R195). -/
def execNoticeRead (_params : List Byte) (s : State) : Host.Outcome State Fault Refusal :=
  .next (hostCommand everywhere true none (State.noticeRead s.notices.clearStep) s)

end Sys2Proof.Machine
end

