-- ==== Sys2Proof/Machine/Resets.lean ====
section
/-!
DEFINITION. Machine/Resets.lean: HARD_RESET and SOFT_RESET (R206), STOP_N_TAKEN (R82), the station's
entry to LISTEN (R203, R206) and LISTEN_TIMER_EXPIRY (R205).
-/
namespace Sys2Proof.Machine

/-! ### Soft reset (R206) -/

/-- A binding record after a soft reset: the epoch, the transfer counter and the machine zone kept
(R3). -/
def Binding.softReset (b : Binding) : Binding :=
  { Binding.reset with
    epoch := b.epoch
    transferCounter := b.transferCounter
    machineZone := b.machineZone }

/-- The Drive Gate after a soft reset: the halt latch kept, and the strobe output active with it
(R64). -/
def DriveGate.softReset (g : DriveGate) : DriveGate :=
  { DriveGate.reset with halted := g.halted, strobeActive := g.halted }

/-- A seat after a soft reset: the limit and the context area kept (R88; log 13). -/
def Seat.softReset (s : Seat) : Seat := { Seat.reset with limit := s.limit, area := s.area }

/-- The four seats after a soft reset. -/
def Seats.softReset (t : Seats) : Seats :=
  ⟨t.seat0.softReset, t.seat1.softReset, t.seat2.softReset, t.seat3.softReset⟩

/-- The role's blocks after a soft reset (R3, R36, R64, R88, R114). -/
def Blocks.softReset : Blocks → Blocks
  | .unset => .unset
  | .chair c => .chair { ChairBlocks.reset with seats := c.seats.softReset }
  | .machine m => .machine ⟨m.binding.softReset, m.gate.softReset⟩

/-- The Line Controller after a reset of a station with a station number (R142, R149). -/
def Line.resetFor (station : Nat) : Line := { Line.reset with generator := generatorSeed station }

/-- The zone table and generation kept, the cache emptied (R119). -/
def Zones.softReset (z : Zones) : Zones := { z with cache := [] }

/-- A station state after a soft reset: SETUP from SETUP, LISTEN from LISTEN or ONLINE (R206). -/
def StationState.softReset : StationState → StationState
  | .setup => .setup
  | .listen => .listen
  | .online => .listen

/-- The listen timer after a soft reset: 1000 ms when the station is then in LISTEN (R206); the Time
Base count is 0. -/
def listenAfter : StationState → Option Nat
  | .setup => none
  | .listen => some Config.listenPeriod
  | .online => some Config.listenPeriod

/-- A soft reset of every block (R197, R206); the configuration record is kept. -/
def State.softReset (s : State) : State :=
  { s with
    station := s.station.softReset
    listenTimer := listenAfter s.station
    time := 0
    zones := s.zones.softReset
    line := Line.resetFor s.config.station
    port := Port.reset
    notices := Notices.reset
    blocks := s.blocks.softReset }

/-! ### Entry to LISTEN and ONLINE (R203, R205) -/

/-- START's entry to LISTEN: the generator seeded, the listen timer started (R203, R149). -/
def State.enterListen (s : State) : State :=
  { s with
    station := .listen
    listenTimer := some (s.time + Config.listenPeriod)
    line := { s.line with generator := generatorSeed s.config.station } }

/-- A MACHINE's work at entry to ONLINE: its zone looked up if reported, E recomputed, the first BEACON
(R205, R2, R30, R65). -/
def MachineView.goOnline (v : MachineView) : MachineView := ((v.lookupZone false).recompute).beacon

/-- A CHAIR's work at entry to ONLINE: the drive period timer started (R205, R88). -/
def ChairView.goOnline (v : ChairView) : ChairView :=
  { v with driveTimer := some (v.time + v.config.drivePeriod) }

/-- START_DONE (R205, R180). -/
def startDone (station : Nat) : Notice := ⟨.startDone, none, station, .none, 0⟩

/-- Entry to ONLINE: START_DONE raised, then the role's blocks begin their work (R205). -/
def State.enterOnline (s : State) : State :=
  onChair ChairView.goOnline
    (onMachine MachineView.goOnline
      (({ s with station := .online, listenTimer := none }).raise (startDone s.config.station)))

/-! ### The commands -/

/-- HARD_RESET (R206): every block at its hard-reset values; the commands still to come are no state of
the station. -/
def execHardReset (s : State) : Host.Outcome State Fault Refusal :=
  .next { State.reset with pending := s.pending }

/-- STOP_N_TAKEN (R82); STOP_N is not used on a CHAIR. -/
def execStopNTaken (low : Bool) (s : State) : Host.Outcome State Fault Refusal :=
  .next (onMachine (MachineView.takeStop low) s)

/-- SOFT_RESET (R197): no response of its own is built, and its parameters are filler. -/
def execSoftReset (_params : List Byte) (s : State) : Host.Outcome State Fault Refusal :=
  .next s.softReset

/-- LISTEN_TIMER_EXPIRY (R205); a stopped listen timer does not expire (log 1, log 3). -/
def execListenTimerExpiry (s : State) : Host.Outcome State Fault Refusal :=
  match s.station, s.listenTimer with
  | .listen, some deadline => .next (s.reach deadline).enterOnline
  | _, _ => .next s

end Sys2Proof.Machine
end

