-- ==== Sys2Proof/Machine/SetupCommands.lean ====
section
/-!
DEFINITION. Machine/SetupCommands.lean: the setup commands and START (R198 to R203), taken in SETUP.
-/
namespace Sys2Proof.Machine

/-- SET ROLE's local part (R199): the blocks of a new role take their hard-reset values. -/
def State.setRole (code : Nat) (s : State) : Answer :=
  match code with
  | 1 => answer .ok (if s.role = .chair then s else { s with blocks := .chair ChairBlocks.reset })
  | 2 => answer .ok (if s.role = .machine then s else { s with blocks := .machine MachineBlocks.reset })
  | _ => answer .badParameter s

/-- SET_ROLE (R199). -/
def execSetRole (params : List Byte) (s : State) : Host.Outcome State Fault Refusal :=
  .next (hostCommand setupOnly (decide (1 ≤ params.length)) none (State.setRole (param params 0)) s)

/-- A station number of a station: 1..60 (R200, R92). -/
def stationNumber (n : Nat) : Bool := decide (1 ≤ n ∧ n ≤ Config.stationMost)

/-- SET STATION's local part (R200). -/
def State.setStation (n : Nat) (s : State) : Answer :=
  if stationNumber n then answer .ok { s with config := { s.config with station := n } }
  else answer .badParameter s

/-- SET_STATION (R200). -/
def execSetStation (params : List Byte) (s : State) : Host.Outcome State Fault Refusal :=
  .next (hostCommand setupOnly (decide (1 ≤ params.length)) none
    (State.setStation (param params 0)) s)

/-- The configuration at a new clock: the pair in force kept when its rate is still within the bounds,
else p = 1, n = 3 (R144). -/
def Configuration.atClock (clock : Nat) (c : Configuration) : Configuration :=
  if rateWithin clock c.prescaler c.select then { c with clock := clock }
  else { c with clock := clock, prescaler := 1, select := 3 }

/-- SET CLOCK's local part (R201, R144; log 25). -/
def State.setClock (n : Nat) (s : State) : Answer :=
  answer (okOr (decide (clampNat 4000 32000 n ≠ n)))
    { s with config := s.config.atClock (clampNat 4000 32000 n), line := s.line.restart }

/-- SET_CLOCK (R201). -/
def execSetClock (params : List Byte) (s : State) : Host.Outcome State Fault Refusal :=
  .next (hostCommand setupOnly (decide (2 ≤ params.length)) none
    (State.setClock (param2 params 0)) s)

/-- SET LINE RATE's local part (R143): an unsupported pair has no effect at all, and the response is OK. -/
def State.setLineRate (p n : Nat) (s : State) : Answer :=
  answer .ok
    (if rateSupported s.config.clock p n then
      { s with config := { s.config with prescaler := p, select := n }, line := s.line.restart }
    else s)

/-- SET_LINE_RATE (R143). -/
def execSetLineRate (params : List Byte) (s : State) : Host.Outcome State Fault Refusal :=
  .next (hostCommand setupOnly (decide (2 ≤ params.length)) none
    (State.setLineRate (param params 0) (param params 1)) s)

/-- A value clamped to a range and then rounded down to a multiple of a step (R202). -/
def stepped (lo hi step n : Nat) : Nat := clampNat lo hi n / step * step

/-- The configuration with the values of a SET TIMING, each judged by itself (R177, R198, R202). -/
def Configuration.timing (ps : List Byte) (c : Configuration) : Configuration :=
  { c with
    beaconPeriod := stepped 100 2000 10 (param2 ps 0)
    drivePeriod := clampNat 20 500 (param2 ps 2)
    heartbeat := clampNat 20 500 (param2 ps 4)
    missLimit := clampNat 2 8 (param ps 6)
    yieldWindow := clampNat 1 30 (param ps 7)
    handoverWindow := clampNat 2 60 (param ps 8)
    hostSilence := clampNat 100 2000 (param2 ps 9)
    fleetAge := clampNat 500 10000 (param2 ps 11) }

/-- No value of a SET TIMING was clamped or rounded: the values taken are those given (R202). -/
def Configuration.timingExact (ps : List Byte) (c : Configuration) : Bool :=
  c.beaconPeriod == param2 ps 0 && c.drivePeriod == param2 ps 2 && c.heartbeat == param2 ps 4
    && c.missLimit == param ps 6 && c.yieldWindow == param ps 7 && c.handoverWindow == param ps 8
    && c.hostSilence == param2 ps 9 && c.fleetAge == param2 ps 11

/-- SET TIMING's local part (R202). -/
def State.setTiming (ps : List Byte) (s : State) : Answer :=
  let c := s.config.timing ps
  answer (okOr (!c.timingExact ps)) { s with config := c }

/-- SET_TIMING (R202). -/
def execSetTiming (params : List Byte) (s : State) : Host.Outcome State Fault Refusal :=
  .next (hostCommand setupOnly (decide (13 ≤ params.length)) none (State.setTiming params) s)

/-- The configuration with the values of a SET RAMP (R177, R198, R202). -/
def Configuration.ramp (ps : List Byte) (c : Configuration) : Configuration :=
  { c with
    rampInterval := stepped 50 1000 50 (param2 ps 0)
    rampStep := clampNat 1 31 (param ps 2)
    crawlFloor := clampNat 0 50 (param ps 3)
    reverseRatio := clampNat 1 8 (param ps 4) }

/-- No value of a SET RAMP was clamped or rounded (R202). -/
def Configuration.rampExact (ps : List Byte) (c : Configuration) : Bool :=
  c.rampInterval == param2 ps 0 && c.rampStep == param ps 2 && c.crawlFloor == param ps 3
    && c.reverseRatio == param ps 4

/-- SET RAMP's local part (R202). -/
def State.setRamp (ps : List Byte) (s : State) : Answer :=
  let c := s.config.ramp ps
  answer (okOr (!c.rampExact ps)) { s with config := c }

/-- SET_RAMP (R202). -/
def execSetRamp (params : List Byte) (s : State) : Host.Outcome State Fault Refusal :=
  .next (hostCommand setupOnly (decide (5 ≤ params.length)) none (State.setRamp params) s)

/-- The strobe polarity of a code (R202). -/
def polarityOf : Nat → Option Polarity
  | 0 => some .activeHigh
  | 1 => some .activeLow
  | _ => none

/-- SET STROBE's local part (R202): a polarity code above 1 refuses the whole command. STB follows from
the polarity (R85, `State.stb`). -/
def State.setStrobe (w polarity : Nat) (s : State) : Answer :=
  match polarityOf polarity with
  | none => answer .badParameter s
  | some p =>
    answer (okOr (decide (clampNat 0 127 w ≠ w)))
      { s with config := { s.config with strobeWidth := clampNat 0 127 w, polarity := p } }

/-- SET_STROBE (R202). -/
def execSetStrobe (params : List Byte) (s : State) : Host.Outcome State Fault Refusal :=
  .next (hostCommand setupOnly (decide (2 ≤ params.length)) none
    (State.setStrobe (param params 0) (param params 1)) s)

/-- START's local part (R203). -/
def State.start (s : State) : Answer :=
  if s.role = .unset ∨ s.config.station = 0 then answer .wrongState s else answer .ok s.enterListen

/-- START (R203). -/
def execStart (_params : List Byte) (s : State) : Host.Outcome State Fault Refusal :=
  .next (hostCommand setupOnly true none State.start s)

end Sys2Proof.Machine
end

