-- ==== Sys2Proof/Machine/SeatCommands.lean ====
section
/-!
DEFINITION. Machine/SeatCommands.lean: the commands of a CHAIR's host: seats (R89 to R105), context areas
(R89), seizure (R108, R109), halting (R110) and the Fleet View (R117).
-/
namespace Sys2Proof.Machine

/-- A chair's answer with no data. -/
def chairAnswer (code : ResponseCode) (v : ChairView) : ChairAnswer := (v, code, [])

/-- The data of SEAT ASK and SEIZE: the seat index (R181). -/
def seatData (i : Fin 4) : List Byte := [byteOf i.val]

/-- A command of a CHAIR's host with `count` parameter bytes and no seat parameter. -/
def chairCommand (count : Nat) (params : List Byte) (rule : ChairView → ChairAnswer) (s : State) : State :=
  hostCommand chairOnline (decide (count ≤ params.length)) none (answerChair rule) s

/-- A command of a CHAIR's host whose first parameter names a seat (R185). -/
def seatCommand (count : Nat) (params : List Byte) (rule : Fin 4 → ChairView → ChairAnswer) (s : State) :
    State :=
  hostCommand chairOnline (decide (count ≤ params.length)) (some (param params 0))
    (answerChair (rule (paramSeat params))) s

/-! ### SEAT ASK (R92, R93) -/

/-- A FREE seat occupied with an ASK (R92 case 5). -/
def ChairView.askOn (i : Fin 4) (rec : FleetRecord) (v : ChairView) : ChairAnswer :=
  let r := v.terms (v.seat i).limit rec
  (((r.2.2.sendTo rec.machine (.ask r.1)).updateSeat i
      (Seat.occupy .asking rec r.1 (v.time + v.config.answerWait))), .ok, seatData i)

/-- A reclaim on a HOLDING seat (R93, R138). -/
def ChairView.reclaimOn (i : Fin 4) (rec : FleetRecord) (v : ChairView) : ChairAnswer :=
  let r := v.terms (v.seat i).limit rec
  ((((r.2.2.faultNotice i r.2.1 rec.zone).sendTo rec.machine (.ask r.1)).updateSeat i
      (Seat.reclaim r.1 (v.time + v.config.answerWait))), .ok, seatData i)

/-- A SEAT ASK that finds a HOLDING seat whose machine is ORPHANED with this chair as controller at the
seat's epoch is a reclaim (R92 case 2). -/
def reclaims (station : Nat) (s : Seat) (rec : FleetRecord) : Bool :=
  decide (s.state = .holding ∧ rec.state = .orphaned ∧ rec.controller = station ∧ rec.epoch = s.epoch)

/-- SEAT ASK's local part (R92). -/
def ChairView.seatAsk (machine : Nat) (v : ChairView) : ChairAnswer :=
  if !stationNumber machine then chairAnswer .badParameter v
  else
    match v.seatFor machine, v.record machine with
    | some i, some rec =>
      if reclaims v.config.station (v.seat i) rec then v.reclaimOn i rec else chairAnswer .seatBusy v
    | some _, none => chairAnswer .seatBusy v
    | none, none => chairAnswer .unknownMachine v
    | none, some rec =>
      match v.freeSeat with
      | none => chairAnswer .seatsFull v
      | some i => v.askOn i rec

/-- SEAT_ASK (R92). -/
def execSeatAsk (params : List Byte) (s : State) : Host.Outcome State Fault Refusal :=
  .next (chairCommand 1 params (ChairView.seatAsk (param params 0)) s)

/-! ### SEAT YIELD, SEAT DECLINE, SEAT RELEASE (R99 to R101) -/

/-- Another seat than `i` is SENDING (R99). -/
def ChairView.otherSending (i : Fin 4) (v : ChairView) : Bool :=
  seatOrder.any fun j => decide (j ≠ i) && decide ((v.seat j).state = .sending)

/-- A seat that has yielded: SENDING, the asker kept, the local proposal wait stopped, the local handover
wait started (R99). -/
def Seat.yielded (wait : Nat) (s : Seat) : Seat :=
  { s with
    state := .sending
    proposal := s.proposal.map fun p => { p with wait := none }
    handoverWait := some wait }

/-- SEAT YIELD's local part (R99). -/
def ChairView.seatYield (i : Fin 4) (v : ChairView) : ChairAnswer :=
  if (v.seat i).state ≠ .holding ∨ (v.seat i).proposal = none then chairAnswer .wrongState v
  else if v.engine.active.isSome || v.otherSending i then chairAnswer .engineBusy v
  else if (v.seat i).area.length < Config.contextLeast then chairAnswer .badParameter v
  else
    chairAnswer .ok ((v.sendTo (v.seat i).machine
        (.yield (v.seat i).epoch (v.seat i).area.length)).updateSeat i
      (Seat.yielded (v.time + v.config.localHandover)))

/-- SEAT_YIELD (R99). -/
def execSeatYield (params : List Byte) (s : State) : Host.Outcome State Fault Refusal :=
  .next (seatCommand 1 params ChairView.seatYield s)

/-- A seat without its proposal record. -/
def Seat.dropProposal (s : Seat) : Seat := { s with proposal := none }

/-- SEAT DECLINE's local part (R100). -/
def ChairView.seatDecline (i : Fin 4) (v : ChairView) : ChairAnswer :=
  if (v.seat i).state ≠ .holding ∨ (v.seat i).proposal = none then chairAnswer .wrongState v
  else
    chairAnswer .ok
      ((v.sendTo (v.seat i).machine (.decline (v.seat i).epoch)).updateSeat i Seat.dropProposal)

/-- SEAT_DECLINE (R100). -/
def execSeatDecline (params : List Byte) (s : State) : Host.Outcome State Fault Refusal :=
  .next (seatCommand 1 params ChairView.seatDecline s)

/-- SEAT RELEASE's local part (R101). -/
def ChairView.seatRelease (i : Fin 4) (v : ChairView) : ChairAnswer :=
  match (v.seat i).state with
  | .holding =>
    chairAnswer .ok ((v.sendTo (v.seat i).machine (.release (v.seat i).epoch)).makeFree i)
  | .asking | .waiting | .seizing => chairAnswer .ok (v.makeFree i)
  | .sending | .receiving | .free => chairAnswer .wrongState v

/-- SEAT_RELEASE (R101). -/
def execSeatRelease (params : List Byte) (s : State) : Host.Outcome State Fault Refusal :=
  .next (seatCommand 1 params ChairView.seatRelease s)

/-! ### SEAT SETPOINT, SEAT LIMIT, SEAT READ (R90, R105) -/

/-- A seat with new setpoints, their age 0 (R105). -/
def Seat.setpoint (p : Setpoints) (now : Nat) (s : Seat) : Seat :=
  { s with setpoints := p, setpointAt := some now }

/-- SEAT SETPOINT's local part (R105). -/
def ChairView.seatSetpoint (p : Setpoints) (i : Fin 4) (v : ChairView) : ChairAnswer :=
  if (v.seat i).state = .free then chairAnswer .wrongState v
  else
    chairAnswer (okOr (decide (clampSetpoints p ≠ p)))
      (v.updateSeat i (Seat.setpoint (clampSetpoints p) v.time))

/-- SEAT_SETPOINT (R105). -/
def execSeatSetpoint (params : List Byte) (s : State) : Host.Outcome State Fault Refusal :=
  .next (seatCommand 7 params (ChairView.seatSetpoint (paramSetpoints params)) s)

/-- SEAT LIMIT's local part (R105, R111). -/
def ChairView.seatLimit (limit : Nat) (i : Fin 4) (v : ChairView) : ChairAnswer :=
  let v1 := v.updateSeat i fun s => { s with limit := clampLimit limit }
  chairAnswer (okOr (decide (clampLimit limit ≠ limit)))
    (if (v.seat i).drives then v1.readmit i else v1)

/-- SEAT_LIMIT (R105). -/
def execSeatLimit (params : List Byte) (s : State) : Host.Outcome State Fault Refusal :=
  .next (seatCommand 2 params (ChairView.seatLimit (param params 1)) s)

/-- SEAT_READ (R90). -/
def execSeatRead (params : List Byte) (s : State) : Host.Outcome State Fault Refusal :=
  .next (seatCommand 1 params (fun i v => (v, .ok, seatRecord v.time (v.seat i))) s)

/-! ### SEAT HOLD, SEAT GO, SEAT ABANDON (R47, R49, R52, R104) -/

/-- A rule for the receiver of the active transfer that serves a seat; WRONG_STATE for any other seat
(R47, R49, R104). -/
def ChairView.atReceivingSeat (i : Fin 4) (rule : ActiveTransfer → Receiver → ChairView → ChairView)
    (v : ChairView) : ChairAnswer :=
  match v.engine.active with
  | some a =>
    match a.side with
    | .receiver r => if a.seat = i then chairAnswer .ok (rule a r v) else chairAnswer .wrongState v
    | .sender _ => chairAnswer .wrongState v
  | none => chairAnswer .wrongState v

/-- SEAT HOLD's local part (R47). -/
def ChairView.seatHold (i : Fin 4) (v : ChairView) : ChairAnswer :=
  v.atReceivingSeat i fun a r w => w.pauseFor a { r with hostHold := true }

/-- SEAT_HOLD (R47, R104). -/
def execSeatHold (params : List Byte) (s : State) : Host.Outcome State Fault Refusal :=
  .next (seatCommand 1 params ChairView.seatHold s)

/-- SEAT GO's local part (R49): with the flag already clear nothing changes. -/
def ChairView.seatGo (i : Fin 4) (v : ChairView) : ChairAnswer :=
  v.atReceivingSeat i fun a r w =>
    if r.hostHold then w.liftIfClear a { r with hostHold := false } else w

/-- SEAT_GO (R49, R104). -/
def execSeatGo (params : List Byte) (s : State) : Host.Outcome State Fault Refusal :=
  .next (seatCommand 1 params ChairView.seatGo s)

/-- The reason a side's ABANDON carries (R52). -/
def abandonReason : Side → Reason
  | .sender _ => .senderAbandon
  | .receiver _ => .receiverAbandon

/-- The ABANDON of a seat's transfer at the engine (R52): of the active transfer, of the pending receive,
or again of a transfer the engine no longer holds. -/
def ChairView.abandon (i : Fin 4) (reason : Reason) (v : ChairView) : ChairView :=
  match v.engine.active.filter (fun a => decide (a.seat = i)) with
  | some a => (v.sendTo a.machine (.abandon a.number (abandonReason a.side))).endActive false
  | none =>
    match v.engine.pendingReceive.filter (fun p => decide (p.seat = i)) with
    | some p => (v.sendTo p.machine (.abandon p.number .receiverAbandon)).setPendingReceive none
    | none =>
      match (v.seat i).transfer with
      | some t => v.sendTo (v.seat i).machine (.abandon t reason)
      | none => v

/-- SEAT ABANDON's local part (R52, R104). -/
def ChairView.seatAbandon (i : Fin 4) (v : ChairView) : ChairAnswer :=
  match (v.seat i).state with
  | .sending => chairAnswer .ok (v.abandon i .senderAbandon)
  | .receiving => chairAnswer .ok (v.abandon i .receiverAbandon)
  | _ => chairAnswer .wrongState v

/-- SEAT_ABANDON (R52, R104). -/
def execSeatAbandon (params : List Byte) (s : State) : Host.Outcome State Fault Refusal :=
  .next (seatCommand 1 params ChairView.seatAbandon s)

/-! ### CONTEXT WRITE, CONTEXT READ (R35, R89) -/

/-- The length check of a CONTEXT WRITE: its word count stands in its fourth byte, lies in 1..16, and
sets how many bytes are needed (R176, R177; log 7). -/
def contextWriteLong (ps : List Byte) : Bool :=
  decide (4 ≤ ps.length) && decide (1 ≤ param ps 3 ∧ param ps 3 ≤ 16)
    && decide (6 + 2 * param ps 3 ≤ ps.length)

/-- The area after a CONTEXT WRITE (R89). -/
def writeArea (start newLength : Nat) (words : List Word) (a : ContextArea) : ContextArea :=
  { areaStore start words a with length := newLength }

/-- CONTEXT WRITE's local part (R35, R89). A command both out of range and to a locked area is answered
BAD_PARAMETER and leaves the write-collision flag: no rule orders the two refusals, and this order is the
model's choice (log 26). -/
def ChairView.contextWrite (ps : List Byte) (i : Fin 4) (v : ChairView) : ChairAnswer :=
  if Config.areaWords < param2 ps 1 + param ps 3 ∨ Config.areaWords < param2 ps 4 then
    chairAnswer .badParameter v
  else if v.engine.locks i then
    chairAnswer .collided { v with port := { v.port with writeCollision := true } }
  else
    chairAnswer .ok
      (v.updateArea i (writeArea (param2 ps 1) (param2 ps 4) (paramWords ps 6 (param ps 3))))

/-- CONTEXT_WRITE (R89). -/
def execContextWrite (params : List Byte) (s : State) : Host.Outcome State Fault Refusal :=
  .next (hostCommand chairOnline (contextWriteLong params) (some (param params 0))
    (answerChair (ChairView.contextWrite params (paramSeat params))) s)

/-- CONTEXT READ's local part (R89). -/
def ChairView.contextRead (start count : Nat) (i : Fin 4) (v : ChairView) : ChairAnswer :=
  if count < 1 ∨ 16 < count ∨ Config.areaWords < start + count then chairAnswer .badParameter v
  else
    (v, .ok, twoBytes (v.seat i).area.length
      ++ (areaWordsFrom (v.seat i).area start count).flatMap wordBytes)

/-- CONTEXT_READ (R89). -/
def execContextRead (params : List Byte) (s : State) : Host.Outcome State Fault Refusal :=
  .next (seatCommand 4 params (ChairView.contextRead (param2 params 1) (param params 3)) s)

/-! ### Seizure (R108, R109) -/

/-- SEIZE ARM's local part (R108); the record of an earlier arm is already gone (R188). -/
def ChairView.seizeArm (machine : Nat) (v : ChairView) : ChairAnswer :=
  if !stationNumber machine then chairAnswer .badParameter v
  else
    match v.record machine with
    | none => chairAnswer .unknownMachine v
    | some rec =>
      if rec.state ≠ .orphaned then chairAnswer .notOrphaned v
      else if (v.seatFor machine).isSome then chairAnswer .seatBusy v
      else if v.freeSeat.isNone then chairAnswer .seatsFull v
      else chairAnswer .ok { v with armed := some machine }

/-- SEIZE_ARM (R108). -/
def execSeizeArm (params : List Byte) (s : State) : Host.Outcome State Fault Refusal :=
  .next (chairCommand 1 params (ChairView.seizeArm (param params 0)) s)

/-- A FREE seat occupied with a SEIZE (R109 case 3). -/
def ChairView.seizeOn (i : Fin 4) (rec : FleetRecord) (v : ChairView) : ChairAnswer :=
  let r := v.terms (v.seat i).limit rec
  (((r.2.2.sendTo rec.machine (.seize r.1)).updateSeat i
      (Seat.occupy .seizing rec r.1 (v.time + v.config.answerWait))), .ok, seatData i)

/-- SEIZE's local part (R109); `armed` is the seize-armed record as the command found it. -/
def ChairView.seize (armed : Option Nat) (machine : Nat) (v : ChairView) : ChairAnswer :=
  if armed ≠ some machine then chairAnswer .notArmed v
  else
    match (v.record machine).filter (fun r => decide (r.state = .orphaned)) with
    | none => chairAnswer .notOrphaned v
    | some rec =>
      match v.freeSeat with
      | none => chairAnswer .seatsFull v
      | some i => v.seizeOn i rec

/-- SEIZE (R109). -/
def execSeize (params : List Byte) (s : State) : Host.Outcome State Fault Refusal :=
  .next (chairCommand 1 params (ChairView.seize s.armed (param params 0)) s)

/-! ### Halting and resuming (R110) -/

/-- HALT MACHINE's local part (R110). -/
def ChairView.haltMachine (target : Nat) (v : ChairView) : ChairAnswer :=
  if targetOk target then chairAnswer .ok (v.sendTo target .halt) else chairAnswer .badParameter v

/-- HALT_MACHINE (R110). -/
def execHaltMachine (params : List Byte) (s : State) : Host.Outcome State Fault Refusal :=
  .next (chairCommand 1 params (ChairView.haltMachine (param params 0)) s)

/-- RESUME MACHINE's local part (R110). -/
def ChairView.resumeMachine (machine : Nat) (v : ChairView) : ChairAnswer :=
  match (v.seatFor machine).filter fun i => (v.seat i).drives with
  | some i => chairAnswer .ok (v.sendTo machine (.resume (v.seat i).epoch))
  | none => chairAnswer .seatBusy v

/-- RESUME_MACHINE (R110). -/
def execResumeMachine (params : List Byte) (s : State) : Host.Outcome State Fault Refusal :=
  .next (chairCommand 1 params (ChairView.resumeMachine (param params 0)) s)

/-! ### FLEET READ (R117) -/

/-- FLEET READ's local part (R117): positions count from the newest record; a position with no record
returns no data (R181). -/
def ChairView.fleetRead (position : Nat) (v : ChairView) : ChairAnswer :=
  if Config.fleetDepth ≤ position then chairAnswer .badParameter v
  else
    match v.fleet.reverse[position]? with
    | some r => (v, .ok, fleetRecordBytes v.time r)
    | none => chairAnswer .ok v

/-- FLEET_READ (R117). -/
def execFleetRead (params : List Byte) (s : State) : Host.Outcome State Fault Refusal :=
  .next (chairCommand 1 params (ChairView.fleetRead (param params 0)) s)

end Sys2Proof.Machine
end

