-- ==== Sys2Proof/Machine/ZoneCommands.lean ====
section
/-!
DEFINITION. Machine/ZoneCommands.lean: the zone commands, taken in every station state and role (R120,
R121, R125, R132 to R134), with the follow-on work of a role (R135, R137).
-/
namespace Sys2Proof.Machine

/-- A zone entry by its kind code and three entry bytes, as stored; the limit cut at 250 (R120, R179). -/
def zoneEntryOf (kind : Nat) (b1 b2 b3 : Byte) : Option ZoneEntry :=
  match kind with
  | 0 => some .absent
  | 1 => some (.leaf (rightsOf b1) (clampLimit b2.toNat) (flagOf b3))
  | 2 => some (.branch b1.toNat)
  | _ => none

/-- The limit of a LEAF written is above 250 (R120). -/
def limitCut (kind : Nat) (limit : Byte) : Bool := kind == 1 && decide (250 < limit.toNat)

/-- ZONE WRITE's local part (R120, R179). -/
def State.zoneWrite (ps : List Byte) (s : State) : Answer :=
  match entryAddress (param ps 0) (param ps 1) (param ps 2),
      zoneEntryOf (param ps 3) (ps.getD 4 0) (ps.getD 5 0) (ps.getD 6 0) with
  | some address, some e =>
    answer (okOr (limitCut (param ps 3) (ps.getD 5 0))) { s with zones := s.zones.write address e }
  | _, _ => answer .badParameter s

/-- ZONE_WRITE (R120). -/
def execZoneWrite (params : List Byte) (s : State) : Host.Outcome State Fault Refusal :=
  .next (hostCommand everywhere (decide (7 ≤ params.length)) none (State.zoneWrite params) s)

/-- ZONE READ's local part (R121). -/
def State.zoneRead (ps : List Byte) (s : State) : Answer :=
  match entryAddress (param ps 0) (param ps 1) (param ps 2) with
  | some address => (s, .ok, zoneEntryBytes (s.zones.entry address))
  | none => answer .badParameter s

/-- ZONE_READ (R121). -/
def execZoneRead (params : List Byte) (s : State) : Host.Outcome State Fault Refusal :=
  .next (hostCommand everywhere (decide (3 ≤ params.length)) none (State.zoneRead params) s)

/-- A role's follow-on work after a generation change or a fence, in LISTEN and ONLINE: a MACHINE whose
zone is covered looks it up afresh, a CHAIR re-admits the held seats that are covered (R125, R133, R135,
R137). The zone part none is ALL. -/
def State.followOn (zone : Option ZonePrefix) (s : State) : State :=
  if s.station = .setup then s
  else
    onChair (ChairView.readmitAll (fenceReaches zone))
      (onMachine
        (fun v => if v.binding.machineZone.any (fenceCovers zone) then v.lookupZone false else v) s)

/-- ZONE GENERATION's local part (R125): every held seat is re-admitted at a change (R137). -/
def State.zoneGeneration (g : Nat) (s : State) : Answer :=
  if s.zones.generation = g then answer .ok s
  else
    answer .ok (({ s with zones := { s.zones with generation := g } } : State).followOn none)

/-- ZONE_GENERATION (R125). -/
def execZoneGeneration (params : List Byte) (s : State) : Host.Outcome State Fault Refusal :=
  .next (hostCommand everywhere (decide (1 ≤ params.length)) none
    (State.zoneGeneration (param params 0)) s)

/-- The zone part of a ZONE FENCE: level 0 is ALL; a level above 3, or a zone code above 8191 at a level
1..3, is refused (R132, R177). -/
def fenceZone (level number : Nat) : Option (Option ZonePrefix) :=
  if level = 0 then some none
  else if level ≤ 3 then (zoneOf number).map fun z => some (prefixOf level z)
  else none

/-- The generation part of a ZONE FENCE: 0 one generation, 1 ALL, any other refused (R177). -/
def fenceGeneration (part generation : Nat) : Option (Option Nat) :=
  match part with
  | 0 => some (some generation)
  | 1 => some none
  | _ => none

/-- ZONE FENCE's local part (R132, R133): the removal, then the follow-on work. -/
def State.zoneFence (ps : List Byte) (s : State) : Answer :=
  match fenceZone (param ps 0) (param2 ps 1), fenceGeneration (param ps 3) (param ps 4) with
  | some zone, some generation =>
    answer .ok (({ s with zones := s.zones.fence zone generation } : State).followOn zone)
  | _, _ => answer .badParameter s

/-- ZONE_FENCE (R132). -/
def execZoneFence (params : List Byte) (s : State) : Host.Outcome State Fault Refusal :=
  .next (hostCommand everywhere (decide (5 ≤ params.length)) none (State.zoneFence params) s)

/-- ZONE LOOKUP's local part (R134). -/
def State.zoneLookup (number : Nat) (s : State) : Answer :=
  match zoneOf number with
  | none => answer .badParameter s
  | some z =>
    let r := s.zones.lookup z
    ({ s with zones := r.2 }, .ok, lookupRecord r.1 r.2)

/-- ZONE_LOOKUP (R134). -/
def execZoneLookup (params : List Byte) (s : State) : Host.Outcome State Fault Refusal :=
  .next (hostCommand everywhere (decide (2 ≤ params.length)) none
    (State.zoneLookup (param2 params 0)) s)

end Sys2Proof.Machine
end

