-- ==== Sys2Proof/Machine/Dispatch.lean ====
section
/-!
DEFINITION. Machine/Dispatch.lean: every command's effect, one arm per row of spec/opcode_table.json.
-/
namespace Sys2Proof.Machine

def exec (i : Instr) (s : State) : Host.Outcome State Fault Refusal :=
  match i with
  | .hardReset => Sys2Proof.Machine.execHardReset s
  | .stopNTaken low => Sys2Proof.Machine.execStopNTaken low s
  | .emptyTransaction => Sys2Proof.Machine.execEmptyTransaction s
  | .unknownCommand code params => Sys2Proof.Machine.execUnknownCommand code params s
  | .setRole params => Sys2Proof.Machine.execSetRole params s
  | .setStation params => Sys2Proof.Machine.execSetStation params s
  | .setClock params => Sys2Proof.Machine.execSetClock params s
  | .setLineRate params => Sys2Proof.Machine.execSetLineRate params s
  | .setTiming params => Sys2Proof.Machine.execSetTiming params s
  | .setRamp params => Sys2Proof.Machine.execSetRamp params s
  | .setStrobe params => Sys2Proof.Machine.execSetStrobe params s
  | .start params => Sys2Proof.Machine.execStart params s
  | .seatAsk params => Sys2Proof.Machine.execSeatAsk params s
  | .seatYield params => Sys2Proof.Machine.execSeatYield params s
  | .seatDecline params => Sys2Proof.Machine.execSeatDecline params s
  | .seatRelease params => Sys2Proof.Machine.execSeatRelease params s
  | .seatSetpoint params => Sys2Proof.Machine.execSeatSetpoint params s
  | .seatLimit params => Sys2Proof.Machine.execSeatLimit params s
  | .seatHold params => Sys2Proof.Machine.execSeatHold params s
  | .seatGo params => Sys2Proof.Machine.execSeatGo params s
  | .seatAbandon params => Sys2Proof.Machine.execSeatAbandon params s
  | .seatRead params => Sys2Proof.Machine.execSeatRead params s
  | .contextWrite params => Sys2Proof.Machine.execContextWrite params s
  | .contextRead params => Sys2Proof.Machine.execContextRead params s
  | .seizeArm params => Sys2Proof.Machine.execSeizeArm params s
  | .seize params => Sys2Proof.Machine.execSeize params s
  | .haltMachine params => Sys2Proof.Machine.execHaltMachine params s
  | .resumeMachine params => Sys2Proof.Machine.execResumeMachine params s
  | .fleetRead params => Sys2Proof.Machine.execFleetRead params s
  | .position params => Sys2Proof.Machine.execPosition params s
  | .localHalt params => Sys2Proof.Machine.execLocalHalt params s
  | .localResume params => Sys2Proof.Machine.execLocalResume params s
  | .clearBinding params => Sys2Proof.Machine.execClearBinding params s
  | .slotRead params => Sys2Proof.Machine.execSlotRead params s
  | .zoneWrite params => Sys2Proof.Machine.execZoneWrite params s
  | .zoneRead params => Sys2Proof.Machine.execZoneRead params s
  | .zoneGeneration params => Sys2Proof.Machine.execZoneGeneration params s
  | .zoneFence params => Sys2Proof.Machine.execZoneFence params s
  | .zoneLookup params => Sys2Proof.Machine.execZoneLookup params s
  | .statusRead params => Sys2Proof.Machine.execStatusRead params s
  | .noticeRead params => Sys2Proof.Machine.execNoticeRead params s
  | .softReset params => Sys2Proof.Machine.execSoftReset params s
  | .listenTimerExpiry => Sys2Proof.Machine.execListenTimerExpiry s
  | .completeFrame levels driven => Sys2Proof.Machine.execCompleteFrame levels driven s
  | .frameStart bits => Sys2Proof.Machine.execFrameStart bits s
  | .frameSent => Sys2Proof.Machine.execFrameSent s
  | .mismatch => Sys2Proof.Machine.execMismatch s
  | .backoffEnd slots => Sys2Proof.Machine.execBackoffEnd slots s
  | .ask => Sys2Proof.Machine.execAsk s
  | .seizeFrame => Sys2Proof.Machine.execSeizeFrame s
  | .yield => Sys2Proof.Machine.execYield s
  | .decline => Sys2Proof.Machine.execDecline s
  | .release => Sys2Proof.Machine.execRelease s
  | .admitFrame => Sys2Proof.Machine.execAdmitFrame s
  | .drive => Sys2Proof.Machine.execDrive s
  | .halt => Sys2Proof.Machine.execHalt s
  | .resume => Sys2Proof.Machine.execResume s
  | .witnessSegment => Sys2Proof.Machine.execWitnessSegment s
  | .witnessSum => Sys2Proof.Machine.execWitnessSum s
  | .accept => Sys2Proof.Machine.execAccept s
  | .abandon => Sys2Proof.Machine.execAbandon s
  | .heartbeatExpiry => Sys2Proof.Machine.execHeartbeatExpiry s
  | .yieldWindowExpiry => Sys2Proof.Machine.execYieldWindowExpiry s
  | .handoverWindowExpiry => Sys2Proof.Machine.execHandoverWindowExpiry s
  | .beaconPeriodExpiry => Sys2Proof.Machine.execBeaconPeriodExpiry s
  | .rampTimerExpiry => Sys2Proof.Machine.execRampTimerExpiry s
  | .strobeTimerExpiry => Sys2Proof.Machine.execStrobeTimerExpiry s
  | .beacon => Sys2Proof.Machine.execBeacon s
  | .grant => Sys2Proof.Machine.execGrant s
  | .refuse => Sys2Proof.Machine.execRefuse s
  | .propose => Sys2Proof.Machine.execPropose s
  | .openTransfer => Sys2Proof.Machine.execOpenTransfer s
  | .receiverSegment => Sys2Proof.Machine.execReceiverSegment s
  | .receiverSum => Sys2Proof.Machine.execReceiverSum s
  | .go => Sys2Proof.Machine.execGo s
  | .hold => Sys2Proof.Machine.execHold s
  | .stop => Sys2Proof.Machine.execStop s
  | .lag => Sys2Proof.Machine.execLag s
  | .commit => Sys2Proof.Machine.execCommit s
  | .abort => Sys2Proof.Machine.execAbort s
  | .drivePeriodExpiry => Sys2Proof.Machine.execDrivePeriodExpiry s
  | .askRepeat seat => Sys2Proof.Machine.execAskRepeat seat s
  | .answerWaitExpiry seat => Sys2Proof.Machine.execAnswerWaitExpiry seat s
  | .localProposalWaitExpiry seat => Sys2Proof.Machine.execLocalProposalWaitExpiry seat s
  | .localHandoverWaitExpiry seat => Sys2Proof.Machine.execLocalHandoverWaitExpiry seat s
  | .ageOut machine => Sys2Proof.Machine.execAgeOut machine s
  | .receiveAssemblyDiscarded => Sys2Proof.Machine.execReceiveAssemblyDiscarded s

end Sys2Proof.Machine
end

