-- ==== Sys2Proof/Machine/Step.lean ====
section
/-!
DEFINITION. Machine/Step.lean: a step takes the command at the front of the queue; on an empty queue one
millisecond of the Time Base passes (R201; log 1, log 2).
-/
namespace Sys2Proof.Machine

/-- One step: the command at the front of the queue on the state with the rest of the queue, or one
millisecond of the Time Base. -/
def step (s : State) : Host.Outcome State Fault Refusal :=
  match s.pending with
  | [] => .next s.tick
  | c :: rest => exec c { s with pending := rest }

/-- The command a table word spells put at the front of the queue; no row of the table has bits, so no
word spells one and the state stands (log 1). -/
def State.withFetchWord (s : State) (nbits w : Nat) : State :=
  match decodeTableWord nbits w with
  | none => s
  | some c => { s with pending := c :: s.pending }

end Sys2Proof.Machine
end

