-- ==== Sys2Proof/WellFormed.lean ====
section
/-!
DEFINITION. WellFormed.lean: which commands can arise. A command outside this is not refused by the
machine (every command has its effect); the check says which terms name a step of the table.
-/
namespace Sys2Proof

/-- The command codes of R177. -/
def assignedCodes : List Nat :=
  [0x10, 0x11, 0x12, 0x13, 0x14, 0x15, 0x16, 0x17, 0x20, 0x21, 0x22, 0x23, 0x24, 0x25, 0x26, 0x27,
   0x28, 0x29, 0x2C, 0x2D, 0x30, 0x31, 0x34, 0x35, 0x38, 0x40, 0x41, 0x42, 0x43, 0x44, 0x50, 0x51,
   0x52, 0x53, 0x54, 0x60, 0x61, 0x6F]

/-- Levels that can end with a frame complete: the last is a stop bit, at the high level (R145, R156). -/
def endsInStopBit (levels : List Bool) : Bool := levels.getLast? == some true

/-- A command that names a step of the table with operands in their ranges. -/
def Instr.wellFormed : Instr → Bool
  | .unknownCommand code _ => !assignedCodes.contains code.toNat
  | .completeFrame levels _ => endsInStopBit levels
  | .backoffEnd slots => decide (slots ≤ 31)
  | .ageOut machine => decide (1 ≤ machine ∧ machine ≤ Config.stationMost)
  | _ => true

end Sys2Proof
end

