-- ==== Sys2Proof/Safety.lean ====
section
/-!
DEFINITION. Safety.lean: the terms that claims use: which host commands are available where (R177, R186),
which frames a station may build (R162 to R172), what becomes of a frame heard and of one gone from the line (R41,
R155, R158), and the invariants of the station.
-/
namespace Sys2Proof.Machine

/-! ### Host commands -/

/-- The availability of each host command (R186); none for a row that is no host command. -/
def availability : Instr → Option Availability
  | .setRole _ | .setStation _ | .setClock _ | .setLineRate _ | .setTiming _ | .setRamp _ | .setStrobe _
  | .start _ => some ⟨true, false, false, none⟩
  | .seatAsk _ | .seatYield _ | .seatDecline _ | .seatRelease _ | .seatSetpoint _ | .seatLimit _
  | .seatHold _ | .seatGo _ | .seatAbandon _ | .seatRead _ | .contextWrite _ | .contextRead _ | .seizeArm _
  | .seize _ | .haltMachine _ | .resumeMachine _ | .fleetRead _ => some ⟨false, false, true, some .chair⟩
  | .position _ | .slotRead _ => some ⟨false, true, true, some .machine⟩
  | .localHalt _ | .localResume _ | .clearBinding _ => some ⟨false, false, true, some .machine⟩
  | .zoneWrite _ | .zoneRead _ | .zoneGeneration _ | .zoneFence _ | .zoneLookup _ | .statusRead _
  | .noticeRead _ | .softReset _ => some ⟨true, true, true, none⟩
  | _ => none

/-- The host command has the parameter bytes it needs (R176, R177); a row that is no host command needs
none. -/
def parametersPresent : Instr → Bool
  | .setRole ps | .setStation ps | .seatAsk ps | .seatYield ps | .seatDecline ps | .seatRelease ps
  | .seatHold ps | .seatGo ps | .seatAbandon ps | .seatRead ps | .seizeArm ps | .seize ps
  | .haltMachine ps | .resumeMachine ps | .fleetRead ps | .zoneGeneration ps => decide (1 ≤ ps.length)
  | .setClock ps | .setLineRate ps | .setStrobe ps | .seatLimit ps | .position ps | .zoneLookup ps =>
    decide (2 ≤ ps.length)
  | .zoneRead ps => decide (3 ≤ ps.length)
  | .contextRead ps => decide (4 ≤ ps.length)
  | .setRamp ps | .zoneFence ps => decide (5 ≤ ps.length)
  | .seatSetpoint ps | .zoneWrite ps => decide (7 ≤ ps.length)
  | .setTiming ps => decide (13 ≤ ps.length)
  | .contextWrite ps => contextWriteLong ps
  | _ => true

/-- The seat index a host command names, if it names a seat (R185). -/
def seatNamed : Instr → Option Nat
  | .seatYield ps | .seatDecline ps | .seatRelease ps | .seatSetpoint ps | .seatLimit ps | .seatHold ps
  | .seatGo ps | .seatAbandon ps | .seatRead ps | .contextWrite ps | .contextRead ps =>
    some (param ps 0)
  | _ => none

/-- The response codes of an accepted command; every other is a refusal (R178, R187). -/
def accepted (code : ResponseCode) : Bool := decide (code = .ok ∨ code = .adjusted)

/-! ### Frames a station builds (R162) -/

/-- A number of a two-byte field: 0..65535. -/
def sixteenBits (n : Nat) : Bool := decide (n < 65536)

/-- A transfer number or a burst number: 1..255. -/
def numbered (n : Nat) : Bool := decide (1 ≤ n ∧ n ≤ 255)

/-- Demands in their ranges (R162). -/
def demandOk (d : Setpoints) : Bool := decide (clampSetpoints d = d)

/-- A body whose fields lie in the ranges of their types: what a station builds (R162, R165 to R172). -/
def sendable : Body → Bool
  | .beacon _ c e _ l _ t => decide (c ≤ 60) && sixteenBits e && decide (l ≤ 250) && decide (t ≤ 255)
  | .drive e q d => sixteenBits e && decide (q ≤ 255) && demandOk d
  | .ask t | .seize t => decide (t.limit ≤ 250)
  | .grant e _ => sixteenBits e
  | .refuse r => decide (refuseReasonOf (reasonByte r) = some r)
  | .propose a e => decide (1 ≤ a ∧ a ≤ 60) && sixteenBits e
  | .yield e l => sixteenBits e && decide (8 ≤ l ∧ l ≤ 384)
  | .decline e | .release e | .resume e => sixteenBits e
  | .openTransfer t s r l =>
    numbered t && decide (1 ≤ s ∧ s ≤ 60) && decide (1 ≤ r ∧ r ≤ 60) && decide (s ≠ r)
      && decide (8 ≤ l ∧ l ≤ 384)
  | .segment t b i ws =>
    numbered t && numbered b && decide (1 ≤ ws.length ∧ ws.length ≤ 8) && decide (i + ws.length ≤ 384)
  | .hold t b | .stop t b => numbered t && numbered b
  | .go t b j => numbered t && numbered b && decide (j ≤ 383)
  | .sum t l _ => numbered t && decide (l ≤ 384)
  | .accept t _ => numbered t
  | .lag t j => numbered t && decide (j ≤ 383)
  | .abandon t r => numbered t && decide (abortReasonOf (reasonByte r) = some r)
  | .commit c e t => decide (1 ≤ c ∧ c ≤ 60) && sixteenBits e && numbered t
  | .abort t r c e =>
    numbered t && decide (abortReasonOf (reasonByte r) = some r) && decide (c ≤ 60) && sixteenBits e
  | .admission e t => sixteenBits e && decide (t.limit ≤ 250)
  | .halt => true

/-- A frame a station may build: stations and body fields in their ranges. -/
def Frame.sendable (f : Frame) : Bool :=
  sourceOk f.source && targetOk f.target && Machine.sendable f.body

/-! ### Invariants -/

/-- The buffers hold no more than their places: 32 notices (R191), 8 frames of which 3 SEGMENT in the
transmit queue (R151), 8 frames in the receive FIFO (R160), 8 cache entries (R126), 32 fleet records, one
for each station (R114). -/
structure BuffersBounded (s : State) : Prop where
  notices : s.notices.queue.length ≤ 32
  transmit : s.line.queue.length ≤ 8
  segments : segmentCount s.line.queue ≤ 3
  receive : s.line.fifo.length ≤ 8
  cache : s.zones.cache.length ≤ 8
  fleet : ∀ c, s.blocks = .chair c → c.fleet.length ≤ 32 ∧ (c.fleet.map (·.machine)).Nodup

/-- The zone table and the context areas stand in their canonical form (log 21). -/
structure StoresCanonical (s : State) : Prop where
  table : storeWf ZoneEntry.absent s.zones.table = true
  areas : ∀ c, s.blocks = .chair c → ∀ i, storeWf (0 : Word) (c.seats.get i).area.words = true

/-- The Drive Gate agrees with its inputs (R65 to R71, R75, R76, R83, R84). -/
structure GateAgrees (c : Configuration) (b : Binding) (g : DriveGate) : Prop where
  combined : g.combined = rightsInter b.admittedRights b.zoneResult.rights
  ramp : ∀ r, g.ramp = some r → r.value = rampValue r.start c.rampStep c.crawlFloor r.expiries
  ceiling : g.ceiling = effectiveCeiling c b g
  reverse : g.reverse = g.ceiling * c.reverseRatio / 8
  outputs : g.outputs = clampedOutputs g
  driveEnable : g.driveEnable = true ↔ 0 < g.ceiling
  strobe : g.strobeActive = true ↔ g.strobeTimer.isSome = true ∨ g.halted = true

/-- On a MACHINE the gate agrees with its inputs, and in SETUP and LISTEN the binding is UNBOUND with no
heartbeat and no ramp (R3, R4, R64). -/
structure GateSound (s : State) : Prop where
  agrees : ∀ m, s.blocks = .machine m → GateAgrees s.config m.binding m.gate
  quiet : ∀ m, s.blocks = .machine m → s.station ≠ .online →
    m.binding.state = .unbound ∧ m.binding.heartbeat = none ∧ m.gate.ramp = none

/-- No two seats name the same machine, and no seat names the machine armed for seizure (R86, R108). -/
structure SeatsApart (s : State) : Prop where
  apart : ∀ c, s.blocks = .chair c → ∀ i j, i ≠ j → (c.seats.get i).state ≠ .free →
    (c.seats.get j).state ≠ .free → (c.seats.get i).machine ≠ (c.seats.get j).machine
  armed : ∀ c, s.blocks = .chair c → ∀ m, c.armed = some m → ∀ i, (c.seats.get i).names m = false

/-- The lookup cache holds at most 8 entries, no two of which conflict (R126, R128). -/
structure CacheSound (z : Zones) : Prop where
  places : z.cache.length ≤ 8
  apart : z.cache.Pairwise fun a b => conflicts a b = false

/-- The halt latch of a MACHINE; clear on any other station (R63). -/
def State.halted (s : State) : Bool :=
  match s.blocks with
  | .machine m => m.gate.halted
  | _ => false

/-- The epoch of a MACHINE's binding record; none on any other station (R1). -/
def State.epoch (s : State) : Option Nat :=
  match s.blocks with
  | .machine m => some m.binding.epoch
  | _ => none

/-- The rows that set the configuration record (R198). -/
def setsConfiguration : Instr → Bool
  | .setStation _ | .setClock _ | .setLineRate _ | .setTiming _ | .setRamp _ | .setStrobe _ => true
  | _ => false

/-- The rows at which a MACHINE's epoch rises (R7). -/
def bindsAChair : Instr → Bool
  | .ask | .seizeFrame | .release | .accept => true
  | _ => false

/-- The rows that set the halt latch (R79). -/
def setsLatch : Instr → Bool
  | .halt | .localHalt _ => true
  | _ => false

/-- The rows that clear the halt latch (R24, R80, R199, R204, R206). -/
def clearsLatch : Instr → Bool
  | .resume | .localResume _ | .hardReset | .setRole _ | .completeFrame .. => true
  | _ => false

/-! ### Frames offered in order -/

/-- Frames offered to the transmit queue in order (R5, R151). -/
def State.sends (fs : List Frame) (s : State) : State := fs.foldl (fun t f => t.send f) s

/-- Notices raised in order (R192). -/
def State.raises (ns : List Notice) (s : State) : State := ns.foldl (fun t n => t.raise n) s

/-! ### The frame a role takes, and what its event leaves -/

/-- The station is a MACHINE in ONLINE with `f` at the head of its receive FIFO (R4, R160). -/
def State.machineHears (m : MachineBlocks) (f : Frame) (rest : List Frame) (s : State) : Prop :=
  s.station = .online ∧ s.blocks = .machine m ∧ s.line.fifo = f :: rest

/-- The station is a CHAIR in ONLINE with `f` at the head of its receive FIFO (R158, R160). -/
def State.chairHears (c : ChairBlocks) (f : Frame) (rest : List Frame) (s : State) : Prop :=
  s.station = .online ∧ s.blocks = .chair c ∧ s.line.fifo = f :: rest

/-- The station is a CHAIR in ONLINE: where its host's commands are taken (R177). -/
def State.chairOnline (c : ChairBlocks) (s : State) : Prop := s.station = .online ∧ s.blocks = .chair c

/-- The station with a machine's record and gate. -/
def State.withMachine (b : Binding) (g : DriveGate) (s : State) : State :=
  { s with blocks := .machine ⟨b, g⟩ }

/-- The station with a chair's blocks. -/
def State.withChair (c : ChairBlocks) (s : State) : State := { s with blocks := .chair c }

/-- Seat `i` is the first seat, in seat index order, that names a machine (R86). -/
def ChairBlocks.seatOf (machine : Nat) (i : Fin 4) (c : ChairBlocks) : Prop :=
  (c.seats.get i).names machine = true ∧ ∀ j, j < i → (c.seats.get j).names machine = false

/-- No seat names a machine (R86). -/
def ChairBlocks.unnamed (machine : Nat) (c : ChairBlocks) : Prop :=
  ∀ i, (c.seats.get i).names machine = false

/-- Seat `i` is the lowest-numbered FREE seat (R92). -/
def ChairBlocks.firstFree (i : Fin 4) (c : ChairBlocks) : Prop :=
  (c.seats.get i).state = .free ∧ ∀ j, j < i → (c.seats.get j).state ≠ .free

/-- A machine's record in the Fleet View (R114). -/
def ChairBlocks.recordOf (machine : Nat) (c : ChairBlocks) : Option FleetRecord :=
  c.fleet.find? fun r => decide (r.machine = machine)

/-- No receiver of the engine holds the pressure flag, so that a frame that leaves the receive FIFO changes
nothing there (R47, R49). -/
def Engine.unpressed (e : Engine) : Prop :=
  ∀ a r, e.active = some a → a.side = .receiver r → r.pressure = false

/-- A seat as it stands once freed: the limit, the context area, the drive sequence, the ask repeat and its terms
kept (R87). -/
def Seat.freed (q : Seat) : Seat :=
  { Seat.reset with limit := q.limit, area := q.area, sequence := q.sequence
                    askRepeated := q.askRepeated, asked := q.asked }

/-- A chair's blocks with seat `i` freed, and its machine's record gone if it has aged (R87, R116). -/
def ChairBlocks.freed (i : Fin 4) (age now : Nat) (c : ChairBlocks) : ChairBlocks :=
  { c with
    seats := c.seats.set i (c.seats.get i).freed
    fleet := c.fleet.filter fun r =>
      !(decide (r.machine = (c.seats.get i).machine) && decide (age ≤ now - r.heardAt)) }

/-- A chair's terms for a zone with a seat limit, from a lookup's answer (R91). -/
def termsFrom (zone : ZoneCode) (limit : Nat) (a : LookupAnswer) : Terms :=
  ⟨zone, a.rights, min limit a.limit⟩

/-- The ZONE_FAULT of a held seat's lookup, if it faulted (R138). -/
def seatFault (i : Fin 4) (machine : Nat) (zone : ZoneCode) (a : LookupAnswer) : List Notice :=
  match a.fault with
  | none => []
  | some f => [⟨.zoneFault, some i, machine, faultReason f, zoneNumber zone⟩]

/-- The ZONE_FAULT of a lookup of the machine zone with the stored mark as it stood, if it faulted and the mark
was clear (R136). -/
def machineFault (marked : Bool) (zone : ZoneCode) (a : LookupAnswer) : List Notice :=
  match a.fault with
  | none => []
  | some f => if marked then [] else [⟨.zoneFault, none, 0, faultReason f, zoneNumber zone⟩]

/-- Seat `i` re-admitted, on a station and its chair's blocks: fresh terms from the zone of the machine's
record, ZONE_FAULT at a fault, and an ADMIT where the terms differ from the last admitted ones (R111, R138). -/
def readmission (i : Fin 4) (p : State × ChairBlocks) : State × ChairBlocks :=
  let q := p.2.seats.get i
  match p.2.recordOf q.machine with
  | none => p
  | some rec =>
    let r := p.1.zones.lookup rec.zone
    let t := termsFrom rec.zone q.limit r.1
    let u := ({ p.1 with zones := r.2 } : State).raises (seatFault i q.machine rec.zone r.1)
    if t = q.lastAdmitted then (u, p.2)
    else
      (u.send ⟨p.1.config.station, q.machine, .admission q.epoch t⟩,
        { p.2 with seats := p.2.seats.set i { q with lastAdmitted := t, admitRepeat := some t } })

/-- The chair's seats HOLDING or SENDING whose machine's record stands in a zone that a test accepts, re-admitted
in seat index order (R111, R137). -/
def readmissions (covered : ZoneCode → Bool) (p : State × ChairBlocks) : State × ChairBlocks :=
  (seatOrder.filter fun i =>
      (p.2.seats.get i).drives
        && (p.2.recordOf (p.2.seats.get i).machine).any fun rec => covered rec.zone).foldl
    (fun q i => readmission i q) p

/-- A chair's blocks with what serves seat `i` ended at the engine: its active transfer, with no receive pending, a
receiver's area then as long as the context at a commit, else empty, and a sender's area kept; or its pending
receive, dropped (R38). -/
def ChairBlocks.unserved (i : Fin 4) (committed : Bool) (c : ChairBlocks) : ChairBlocks :=
  match c.engine.active.filter fun a => decide (a.seat = i) with
  | some a =>
    { c with
      engine := ⟨none, none⟩
      seats :=
        match a.side with
        | .sender _ => c.seats
        | .receiver _ => c.seats.set i { c.seats.get i with
            area := { (c.seats.get i).area with length := if committed then a.length else 0 } } }
  | none =>
    { c with engine := { c.engine with
        pendingReceive := c.engine.pendingReceive.filter fun p => decide (p.seat ≠ i) } }

/-- The transmitter for a queue no frame of which is on the line (R146, R152, R154). -/
def transmitterFor : List QueuedFrame → Transmitter
  | [] => .idle
  | e :: _ => if e.slots = 0 then .defer else .backoff

/-- The station's role keeps a frame of another source: of a kind it takes, addressed to this station or to all, or
overheard by a CHAIR, of any exchange or of its own transfers, or by a MACHINE's witness (R158). -/
def State.keepsFrame (f : Frame) (s : State) : Prop :=
  let ours := f.target = s.config.station ∨ f.target = 63
  (∃ m, s.blocks = .machine m
    ∧ (ours ∧ machineTakes f.body = true
      ∨ ∃ r, m.binding.state = .transfer r ∧ f.source = r.sender ∧ witnessNumber f.body = some r.number))
  ∨ (∃ c, s.blocks = .chair c
    ∧ (ours ∧ chairTakes f.body = true
      ∨ chairOverhears f.body = true
      ∨ (∃ a, c.engine.active = some a ∧ f.source = a.peer ∧ exchangeNumber f.body = some a.number)
      ∨ ∃ p, c.engine.pendingReceive = some p ∧ f.source = p.sender
        ∧ exchangeNumber f.body = some p.number))

/-- The frame `e` on the line leaves the queue with `rest` behind it, and the station is then `t`: the next becomes
head, and where `e` is a SEGMENT and the chair's engine a sender, the sender counts it out and, in SEND_RUN, queues
on: the next 8 words, or the last ones and the SUM (R41, R148, R155). A sender in SEND_RUN is covered where its two
other SEGMENT frames wait and the queue has room. -/
def State.frameGone (s : State) (e : QueuedFrame) (rest : List QueuedFrame) (t : State) : Prop :=
  let ended : State := { s with line := { s.line with
    queue := rest, transmitter := transmitterFor rest, quiet := 0 } }
  (isSegment e.frame = false
      ∨ ∀ c a x, s.blocks = .chair c → c.engine.active = some a → a.side ≠ .sender x) ∧ t = ended
    ∨ isSegment e.frame = true ∧ ∃ c a x, s.blocks = .chair c ∧ c.engine.active = some a
      ∧ a.side = .sender x
      ∧ (let engine (x' : Sender) : ChairBlocks :=
          { c with engine := { c.engine with active := some { a with side := .sender x' } } }
        let seg (n : Nat) : Frame := ⟨s.config.station, a.peer,
          .segment a.number a.burst x.position (areaWordsFrom (c.seats.get a.seat).area x.position n)⟩
        x.state ≠ .run ∧ t = ended.withChair (engine { x with queued := x.queued - 1 })
        ∨ s.station = .online ∧ rest.length < 8 ∧ segmentCount rest < 3 ∧ x.state = .run ∧ x.queued = 3
          ∧ x.position + 8 < x.length
          ∧ t = (ended.send (seg 8)).withChair (engine { x with position := x.position + 8 })
        ∨ s.station = .online ∧ rest.length < 8 ∧ segmentCount rest < 3 ∧ x.state = .run ∧ x.queued = 3
          ∧ x.position < x.length ∧ x.length ≤ x.position + 8
          ∧ t = (ended.sends [seg (x.length - x.position),
              ⟨s.config.station, a.peer, .sum a.number x.length x.sum⟩]).withChair
            (engine { x with position := x.length, state := .done }))

/-- The frame a BEACON is (R29). -/
def beaconFrame (c : Configuration) (b : Binding) (g : DriveGate) : Frame :=
  ⟨c.station, Config.allStations, beaconBody b g⟩

/-- The BINDING notice for a record (R6). -/
def bindingChange (b : Binding) : Notice :=
  ⟨.binding, none, b.controller, .bindingState (stateCode b.state), b.epoch⟩

/-- The machine zone result a lookup's answer makes (R2). -/
def zoneResultOf (a : LookupAnswer) : MachineZoneResult := ⟨a.rights, a.limit, a.fault.isSome⟩

end Sys2Proof.Machine
end

