-- ==== Sys2Proof/Certificates/Slice0/Obligations.lean ====
section
/-!
DEFINITION. Certificates/Slice0/Obligations.lean: the statements for the provers. Each docstring names the
rules of spec/ it comes from; where a clause is the model's own choice it names the log entry.
-/
open Sys2Proof Sys2Proof.Machine

/-! ### The queue of commands -/

/-- A step runs the command at the front of the queue on the state with the rest of the queue, and on an empty
queue one millisecond of the Time Base passes and nothing else changes (R201; the queue is the model's, log
1, and so is the millisecond a step, log 2). -/
def Obligations.StepRunsFrontCommand : Prop :=
  (∀ (c : Instr) (rest : List Instr) (s : State), s.pending = c :: rest →
      step s = exec c { s with pending := rest })
  ∧ (∀ s : State, s.pending = [] → step s = .next { s with time := s.time + 1 })

/-- Every row of the table takes effect in every state, and none touches the queue of waiting commands
(log 1). -/
def Obligations.EveryCommandCompletesAndKeepsTheQueue : Prop :=
  ∀ (c : Instr) (s : State), ∃ t, exec c s = .next t ∧ t.pending = s.pending

/-! ### The host port: R176, R183 to R188 -/

/-- A transaction and the row it is: every well-formed row of the host port is read back from the bytes of its
transaction, and every sequence of complete bytes is the transaction of one well-formed row, the unassigned codes
among them. The bytes are those of the levels of SDI at the clocks, each most significant bit first, and a last byte
of fewer than 8 clocks is not counted; the row joins the commands that wait. Over the clocks of the transaction SDO
carries the response pending before it: its code, its data length, its data and then 0x00, each byte most
significant bit first (R176, R177; the queue is the model's, log 1). -/
def Obligations.TransactionsReadBack : Prop :=
  (∀ (i : Instr) (bytes : List Byte), i.transactionBytes = some bytes → i.wellFormed = true →
      commandOfTransaction bytes = i)
  ∧ (∀ bytes : List Byte, (commandOfTransaction bytes).wellFormed = true
      ∧ (commandOfTransaction bytes).transactionBytes = some bytes)
  ∧ ((∀ (i : Instr) (bytes : List Byte) (cut : List Bool) (s : State), i.transactionBytes = some bytes →
      i.wellFormed = true → cut.length < 8 →
      s.hostTransaction (bytes.flatMap byteBits ++ cut) = { s with pending := s.pending ++ [i] })
    ∧ ∀ levels : List Bool, (sdiBytes levels).length = levels.length / 8
      ∧ ∀ k j, k < levels.length / 8 → j < 8 →
        ((sdiBytes levels).getD k 0).getLsbD (7 - j) = levels.getD (8 * k + j) false)
  ∧ (∀ (n k : Nat) (s : State), k < n →
      let r := s.port.response
      (r.clockedOut n).length = n
      ∧ (s.sdo n).length = 8 * n
      ∧ (r.clockedOut n)[k]? = some
          (if k = 0 then byteOf (responseByte r.code)
           else if k = 1 then byteOf r.data.length
           else if k < 2 + r.data.length then r.data.getD (k - 2) 0
           else 0)
      ∧ ∀ j, j < 8 → (s.sdo n)[8 * k + j]? = some (((r.clockedOut n).getD k 0).getLsbD (7 - j)))

/-- A refused host command changes nothing but what every command taken changes: the transaction ends, the
response (with no data) replaces the pending one, the seize-armed record and the clear step go; a COLLIDED
refusal also sets the write-collision flag (R176, R185, R35). -/
def Obligations.RefusedCommandChangesNothingElse : Prop :=
  ∀ (c : Instr) (s t : State), (availability c).isSome = true → exec c s = .next t →
    accepted t.port.response.code = false →
    t = ({ s with port := { s.port with writeCollision := t.port.writeCollision } } : State).commandTaken.respond
          t.port.response.code []
      ∧ (t.port.response.code ≠ .collided → t.port.writeCollision = s.port.writeCollision)
      ∧ (t.port.response.code = .collided → t.port.writeCollision = true)

/-- The shared checks of a host command in their order: missing bytes, station state, role, seat index. A
transaction with no complete byte takes no command and leaves the pending response; an unassigned code is
a command taken, answered UNKNOWN_COMMAND (R176, R185, R186, R188, R194). That CONTEXT WRITE's bad word count
fails in the length check is the model's choice (log 7). -/
def Obligations.TransactionsAndTheirSharedChecks : Prop :=
  (∀ (c : Instr) (a : Availability) (s : State), availability c = some a →
      (parametersPresent c = false → exec c s = .next (s.commandTaken.respond .badParameter []))
      ∧ (parametersPresent c = true → a.inState s.station = false →
          exec c s = .next (s.commandTaken.respond .wrongState []))
      ∧ (parametersPresent c = true → a.inState s.station = true → a.inRole s.role = false →
          exec c s = .next (s.commandTaken.respond .wrongRole []))
      ∧ (parametersPresent c = true → a.inState s.station = true → a.inRole s.role = true →
          ∀ i, seatNamed c = some i → 3 < i →
            exec c s = .next (s.commandTaken.respond .badParameter [])))
  ∧ ((∀ s : State, exec .emptyTransaction s = .next { s with port := { s.port with transaction := none } })
    ∧ (∀ (code : Byte) (ps : List Byte) (s : State), assignedCodes.contains code.toNat = false →
        exec (.unknownCommand code ps) s = .next { s with
          port := { s.port with transaction := none, response := ⟨.unknownCommand, []⟩ }
          notices := { s.notices with clearStep := false }
          blocks := disarm s.blocks }))

/-- STATUS READ returns the record as it found it, clears the three flags it copied, and opens the clear
step if the notice overrun was returned set; NOTICE READ returns the oldest notice or the empty marker,
and clears the overrun flag when the step is open; so the pair clears it (R189, R190, R194, R195). -/
def Obligations.StatusReadThenNoticeRead : Prop :=
  (∀ (ps : List Byte) (s : State),
    exec (.statusRead ps) s = .next { s with
      line := { s.line with overrun := false }
      port := ⟨⟨.ok, s.statusRecord⟩, none, false, false⟩
      notices := { s.notices with clearStep := s.notices.overrun }
      blocks := disarm s.blocks })
  ∧ (∀ (ps : List Byte) (s : State),
    exec (.noticeRead ps) s = .next { s with
      port := { s.port with
        transaction := none
        response := ⟨.ok, match s.notices.queue with | [] => [0, 0, 0, 0, 0, 0] | n :: _ => noticeRecord n⟩ }
      notices := ⟨s.notices.queue.tail, s.notices.overrun && !s.notices.clearStep, false⟩
      blocks := disarm s.blocks })
  ∧ (∀ (ps qs : List Byte) (s t u : State), exec (.statusRead ps) s = .next t →
      exec (.noticeRead qs) t = .next u → u.notices.overrun = false)

/-- The commands that read return their record with OK and change nothing else (R78, R89, R90, R117;
the records' bytes are R181's). -/
def Obligations.ReadsChangeNothing : Prop :=
  (∀ (ps : List Byte) (s : State) (m : MachineBlocks), s.station ≠ .setup → s.blocks = .machine m →
    exec (.slotRead ps) s = .next (s.commandTaken.respond .ok (slotRecord s.time m.gate)))
  ∧ (∀ (ps : List Byte) (s : State) (c : ChairBlocks), s.station = .online → s.blocks = .chair c →
    1 ≤ ps.length → param ps 0 ≤ 3 →
    exec (.seatRead ps) s
      = .next (s.commandTaken.respond .ok (seatRecord s.time (c.seats.get (paramSeat ps)))))
  ∧ (∀ (ps : List Byte) (s : State) (c : ChairBlocks), s.station = .online → s.blocks = .chair c →
    1 ≤ ps.length → param ps 0 ≤ 31 →
    exec (.fleetRead ps) s
      = .next (s.commandTaken.respond .ok
          (match c.fleet.reverse[param ps 0]? with
           | some r => fleetRecordBytes s.time r
           | none => [])))
  ∧ (∀ (ps : List Byte) (s : State) (c : ChairBlocks), s.station = .online → s.blocks = .chair c →
    4 ≤ ps.length → param ps 0 ≤ 3 → 1 ≤ param ps 3 → param ps 3 ≤ 16 →
    param2 ps 1 + param ps 3 ≤ 384 →
    exec (.contextRead ps) s
      = .next (s.commandTaken.respond .ok
          (twoBytes (c.seats.get (paramSeat ps)).area.length
            ++ (areaWordsFrom (c.seats.get (paramSeat ps)).area (param2 ps 1) (param ps 3)).flatMap
                wordBytes)))

/-! ### Resets and setup: R198 to R206 -/

/-- HARD_RESET puts the station, its configuration and the blocks of both roles at their reset values; the
role is unset (R119, R142, R182, R191, R198, R206). The commands still to come are no state of the
station (log 1). -/
def Obligations.HardResetGivesTheResetValues : Prop :=
  ∀ s : State, ∃ t, exec .hardReset s = .next t ∧ t.pending = s.pending
    ∧ t.station = .setup ∧ t.listenTimer = none ∧ t.time = 0 ∧ t.blocks = .unset
    ∧ t.config = {
        station := 0, clock := 16000, prescaler := 1, select := 3, beaconPeriod := 250
        drivePeriod := 50, heartbeat := 100, missLimit := 4, yieldWindow := 10, handoverWindow := 20
        hostSilence := 300, fleetAge := 2000, rampInterval := 500, rampStep := 10, crawlFloor := 15
        reverseRatio := 4, strobeWidth := 49, polarity := .activeHigh }
    ∧ t.zones = ⟨[], 0, []⟩
    ∧ t.line = ⟨.idle, [], 0, 0, none, [], false⟩
    ∧ t.port = ⟨⟨.ok, []⟩, none, false, false⟩
    ∧ t.notices = ⟨[], false, false⟩
    ∧ t.attn = false ∧ t.den = false ∧ t.stb = false ∧ t.lte = false

/-- SOFT RESET keeps the configuration, the zone table and generation, a machine's epoch, transfer counter,
machine zone and halt latch, and a chair's seat limits and context areas, and puts everything else back;
a station out of SETUP enters LISTEN for 1000 ms (R3, R36, R64, R88, R114, R119, R142, R182, R191, R197,
R206). -/
def Obligations.SoftResetKeepsWhatTheRulesKeep : Prop :=
  ∀ (ps : List Byte) (s : State), ∃ t, exec (.softReset ps) s = .next t ∧ t.pending = s.pending
    ∧ t.config = s.config ∧ t.time = 0
    ∧ (s.station = .setup → t.station = .setup ∧ t.listenTimer = none)
    ∧ (s.station ≠ .setup → t.station = .listen ∧ t.listenTimer = some 1000)
    ∧ t.zones = ⟨s.zones.table, s.zones.generation, []⟩
    ∧ t.line = ⟨.idle, [], BitVec.ofNat 16 (s.config.station * 257), 0, none, [], false⟩
    ∧ t.port = ⟨⟨.ok, []⟩, none, false, false⟩
    ∧ t.notices = ⟨[], false, false⟩
    ∧ t.role = s.role
    ∧ (∀ m, s.blocks = .machine m → t.blocks = .machine
        { binding := { Binding.reset with
            epoch := m.binding.epoch
            transferCounter := m.binding.transferCounter
            machineZone := m.binding.machineZone }
          gate := { DriveGate.reset with halted := m.gate.halted, strobeActive := m.gate.halted } })
    ∧ (∀ c, s.blocks = .chair c → ∃ c', t.blocks = .chair c'
        ∧ c'.armed = none ∧ c'.driveTimer = none ∧ c'.engine = ⟨none, none⟩ ∧ c'.fleet = []
        ∧ ∀ i, (c'.seats.get i).state = .free ∧ (c'.seats.get i).machine = 0
          ∧ (c'.seats.get i).epoch = 0 ∧ (c'.seats.get i).setpoints = Setpoints.zero
          ∧ (c'.seats.get i).setpointAt = none ∧ (c'.seats.get i).lastAdmitted = Terms.zero
          ∧ (c'.seats.get i).admitRepeat = none ∧ (c'.seats.get i).proposal = none
          ∧ (c'.seats.get i).transfer = none ∧ (c'.seats.get i).answerWait = none
          ∧ (c'.seats.get i).handoverWait = none
          ∧ (c'.seats.get i).limit = (c.seats.get i).limit
          ∧ (c'.seats.get i).area = (c.seats.get i).area)

/-- SET ROLE: a new role's blocks take their hard-reset values, the role already set changes nothing, any other code
is refused. SET STATION takes 1..60 and refuses every other value; SET CLOCK clamps to 4000..32000 and keeps the
rate pair only while its rate stays within the bounds; SET LINE RATE takes a pair whose exact rate lies within
9,600..1,000,000 bit/s and otherwise changes nothing at all, answered OK (R143, R144, R199, R200, R201). The model's
choices: that SET CLOCK empties the assembly and the quiet count at an unchanged clock (log 25), and the drive
sequence, the ask repeat and its terms of a new chair's seats (log 13). -/
def Obligations.SetRoleStationClockAndRate : Prop :=
  (∀ (ps : List Byte) (s : State), s.station = .setup → 1 ≤ ps.length →
      (param ps 0 = 1 → s.role ≠ .chair →
        exec (.setRole ps) s
          = .next (({ s with blocks := .chair ChairBlocks.reset } : State).commandTaken.respond .ok []))
      ∧ (param ps 0 = 2 → s.role ≠ .machine →
        exec (.setRole ps) s
          = .next (({ s with blocks := .machine ⟨Binding.reset, DriveGate.reset⟩ } : State).commandTaken.respond
              .ok []))
      ∧ (param ps 0 = roleByte s.role → param ps 0 ≠ 0 →
        exec (.setRole ps) s = .next (s.commandTaken.respond .ok []))
      ∧ (param ps 0 = 0 ∨ 2 < param ps 0 →
        exec (.setRole ps) s = .next (s.commandTaken.respond .badParameter [])))
  ∧ ((∀ (ps : List Byte) (s : State), s.station = .setup → 1 ≤ ps.length →
      (1 ≤ param ps 0 → param ps 0 ≤ 60 →
        exec (.setStation ps) s
          = .next (({ s with config := { s.config with station := param ps 0 } } : State).commandTaken.respond
              .ok []))
      ∧ (param ps 0 = 0 ∨ 60 < param ps 0 →
        exec (.setStation ps) s = .next (s.commandTaken.respond .badParameter [])))
    ∧ (∀ (ps : List Byte) (s : State), s.station = .setup → 2 ≤ ps.length →
      ∃ code cfg,
        exec (.setClock ps) s
          = .next (({ s with
              config := cfg, line := { s.line with assembly := none, quiet := 0 } } : State).commandTaken.respond
              code [])
        ∧ (code = .ok ↔ 4000 ≤ param2 ps 0 ∧ param2 ps 0 ≤ 32000)
        ∧ (code = .adjusted ↔ param2 ps 0 < 4000 ∨ 32000 < param2 ps 0)
        ∧ cfg.clock = max 4000 (min 32000 (param2 ps 0))
        ∧ cfg = { s.config with
            clock := cfg.clock
            prescaler := if rateWithin cfg.clock s.config.prescaler s.config.select then s.config.prescaler else 1
            select := if rateWithin cfg.clock s.config.prescaler s.config.select then s.config.select else 3 })
    ∧ (∀ (ps : List Byte) (s : State), s.station = .setup → 2 ≤ ps.length →
      (rateSupported s.config.clock (param ps 0) (param ps 1) = true →
        exec (.setLineRate ps) s
          = .next (({ s with
              config := { s.config with prescaler := param ps 0, select := param ps 1 }
              line := { s.line with assembly := none, quiet := 0 } } : State).commandTaken.respond .ok []))
      ∧ (rateSupported s.config.clock (param ps 0) (param ps 1) = false →
        exec (.setLineRate ps) s = .next (s.commandTaken.respond .ok []))))

/-- SET TIMING, SET RAMP and SET STROBE take each value at the nearest bound of its range, the two stepped
values rounded down; the response is ADJUSTED exactly when a value taken differs from the value given; a
polarity code above 1 refuses SET STROBE whole, and one taken puts STB, with no strobe, at the inactive level
of that polarity (R85, R187, R198, R202). -/
def Obligations.SetTimingRampAndStrobe : Prop :=
  (∀ (ps : List Byte) (s : State), s.station = .setup → 13 ≤ ps.length →
    ∃ cfg, cfg = { s.config with
        beaconPeriod := max 100 (min 2000 (param2 ps 0)) / 10 * 10
        drivePeriod := max 20 (min 500 (param2 ps 2))
        heartbeat := max 20 (min 500 (param2 ps 4))
        missLimit := max 2 (min 8 (param ps 6))
        yieldWindow := max 1 (min 30 (param ps 7))
        handoverWindow := max 2 (min 60 (param ps 8))
        hostSilence := max 100 (min 2000 (param2 ps 9))
        fleetAge := max 500 (min 10000 (param2 ps 11)) }
      ∧ exec (.setTiming ps) s
        = .next (({ s with config := cfg } : State).commandTaken.respond
            (if cfg.beaconPeriod = param2 ps 0 ∧ cfg.drivePeriod = param2 ps 2
                ∧ cfg.heartbeat = param2 ps 4 ∧ cfg.missLimit = param ps 6
                ∧ cfg.yieldWindow = param ps 7 ∧ cfg.handoverWindow = param ps 8
                ∧ cfg.hostSilence = param2 ps 9 ∧ cfg.fleetAge = param2 ps 11
              then .ok else .adjusted) []))
  ∧ (∀ (ps : List Byte) (s : State), s.station = .setup → 5 ≤ ps.length →
    ∃ cfg, cfg = { s.config with
        rampInterval := max 50 (min 1000 (param2 ps 0)) / 50 * 50
        rampStep := max 1 (min 31 (param ps 2))
        crawlFloor := min 50 (param ps 3)
        reverseRatio := max 1 (min 8 (param ps 4)) }
      ∧ exec (.setRamp ps) s
        = .next (({ s with config := cfg } : State).commandTaken.respond
            (if cfg.rampInterval = param2 ps 0 ∧ cfg.rampStep = param ps 2
                ∧ cfg.crawlFloor = param ps 3 ∧ cfg.reverseRatio = param ps 4
              then .ok else .adjusted) []))
  ∧ (∀ (ps : List Byte) (s : State), s.station = .setup → 2 ≤ ps.length →
    (∀ p, (param ps 1 = 0 ∧ p = Polarity.activeHigh) ∨ (param ps 1 = 1 ∧ p = Polarity.activeLow) →
      exec (.setStrobe ps) s
        = .next (({ s with
            config := { s.config with strobeWidth := min 127 (param ps 0), polarity := p } } : State).commandTaken.respond
            (if param ps 0 ≤ 127 then .ok else .adjusted) [])
      ∧ ∀ t, exec (.setStrobe ps) s = .next t → s.strobing = false → t.stb = decide (p = .activeLow))
    ∧ (1 < param ps 1 → exec (.setStrobe ps) s = .next (s.commandTaken.respond .badParameter [])))

/-- START enters LISTEN with the generator seeded and the listen timer at 1000 ms, and is refused while the
role is unset or the station number 0; the listen timer's expiry enters ONLINE, raises START_DONE first,
starts a chair's drive period, looks a machine's reported zone up, with ZONE_FAULT at a fault whose mark was
clear, and queues its first BEACON (R2, R30, R136, R149, R203, R205). That the Time Base then stands at the
deadline or later, and the ceiling the BEACON carries, are the model's choices (logs 3, 10). -/
def Obligations.StartListensThenGoesOnline : Prop :=
  (∀ (ps : List Byte) (s : State), s.station = .setup →
    (s.role ≠ .unset → s.config.station ≠ 0 →
      exec (.start ps) s = .next (({ s with
        station := .listen
        listenTimer := some (s.time + 1000)
        line := { s.line with
          generator := BitVec.ofNat 16 (s.config.station * 257) } } : State).commandTaken.respond .ok []))
    ∧ (s.role = .unset ∨ s.config.station = 0 →
      exec (.start ps) s = .next (s.commandTaken.respond .wrongState [])))
  ∧ (∀ (s : State) (d : Nat) (c : ChairBlocks), s.station = .listen → s.listenTimer = some d →
    s.blocks = .chair c →
    exec .listenTimerExpiry s = .next (({ s with
      station := .online
      listenTimer := none
      time := max s.time d
      blocks := .chair { c with driveTimer := some (max s.time d + s.config.drivePeriod) } } : State).raise
        ⟨.startDone, none, s.config.station, .none, 0⟩))
  ∧ (∀ (s : State) (d : Nat) (m : MachineBlocks), s.station = .listen → s.listenTimer = some d →
    s.blocks = .machine m → m.binding.machineZone = none →
    let g := m.gate.recompute s.config m.binding
    let t := ({ s with station := .online, listenTimer := none, time := max s.time d } : State).raise
        ⟨.startDone, none, s.config.station, .none, 0⟩
    exec .listenTimerExpiry s = .next { t.send ⟨s.config.station, 63, beaconBody m.binding g⟩ with
      blocks := .machine
        ⟨{ m.binding with beaconTimer := some (max s.time d + s.config.beaconPeriod) }, g⟩ })
  ∧ (∀ (s : State) (d : Nat) (m : MachineBlocks) (z : ZoneCode), s.station = .listen →
    s.listenTimer = some d → s.blocks = .machine m → m.binding.machineZone = some z →
    let now := max s.time d
    let r := s.zones.lookup z
    let b : Binding := { m.binding with
      zoneResult := zoneResultOf r.1, beaconTimer := some (now + s.config.beaconPeriod) }
    let g := m.gate.recompute s.config b
    exec .listenTimerExpiry s
      = .next (((({ s with station := .online, listenTimer := none, time := now, zones := r.2 } : State).raises
          (⟨.startDone, none, s.config.station, .none, 0⟩
            :: machineFault m.binding.zoneResult.fault z r.1)).send (beaconFrame s.config b g)).withMachine b g))

/-! ### Zones: R118 to R134 -/

/-- ZONE WRITE, in every station state and role, stores its entry whole, leaves every other entry, the cache
and all else as they were, and is answered ADJUSTED for a LEAF limit above 250; an address or a kind outside
its range is refused (R120, R179). The premise on the table's form is the invariant of
StepKeepsStoresCanonical. -/
def Obligations.ZoneWriteStoresTheEntry : Prop :=
  ∀ (ps : List Byte) (s : State), 7 ≤ ps.length →
    (∀ (a : Nat) (e : ZoneEntry), storeWf ZoneEntry.absent s.zones.table = true →
      (param ps 0 = 0 ∧ param ps 1 = 0 ∧ param ps 2 < 16 ∧ a = param ps 2
        ∨ param ps 0 = 1 ∧ param ps 1 < 24 ∧ param ps 2 < 32 ∧ a = 16 + param ps 1 * 32 + param ps 2
        ∨ param ps 0 = 2 ∧ param ps 1 < 48 ∧ param ps 2 < 16
            ∧ a = 784 + param ps 1 * 16 + param ps 2) →
      (param ps 3 = 0 ∧ e = .absent
        ∨ param ps 3 = 1
            ∧ e = .leaf (rightsOf (ps.getD 4 0)) (min (param ps 5) 250) ((ps.getD 6 0).getLsbD 0)
        ∨ param ps 3 = 2 ∧ e = .branch (param ps 4)) →
      ∃ table,
        exec (.zoneWrite ps) s
          = .next (({ s with zones := { s.zones with table := table } } : State).commandTaken.respond
              (if param ps 3 = 1 ∧ 250 < param ps 5 then .adjusted else .ok) [])
        ∧ ({ s.zones with table := table } : Zones).entry a = e
        ∧ ∀ b, b ≠ a → ({ s.zones with table := table } : Zones).entry b = s.zones.entry b)
    ∧ (2 < param ps 0 ∨ 2 < param ps 3
        ∨ param ps 0 = 0 ∧ (0 < param ps 1 ∨ 15 < param ps 2)
        ∨ param ps 0 = 1 ∧ (23 < param ps 1 ∨ 31 < param ps 2)
        ∨ param ps 0 = 2 ∧ (47 < param ps 1 ∨ 15 < param ps 2) →
      exec (.zoneWrite ps) s = .next (s.commandTaken.respond .badParameter []))

/-- ZONE READ returns the entry as the table holds it, whatever the cache holds: its kind, and a LEAF's
rights, limit and global flag or a BRANCH's child index; it is taken in every station state and role and
changes nothing but what every command taken changes; a parameter outside its range is refused (R121). -/
def Obligations.ZoneReadReturnsTheEntry : Prop :=
  ∀ (ps : List Byte) (s : State), 3 ≤ ps.length →
    (∀ a, (param ps 0 = 0 ∧ param ps 1 = 0 ∧ param ps 2 < 16 ∧ a = param ps 2)
        ∨ (param ps 0 = 1 ∧ param ps 1 < 24 ∧ param ps 2 < 32 ∧ a = 16 + param ps 1 * 32 + param ps 2)
        ∨ (param ps 0 = 2 ∧ param ps 1 < 48 ∧ param ps 2 < 16
            ∧ a = 784 + param ps 1 * 16 + param ps 2) →
      exec (.zoneRead ps) s = .next (s.commandTaken.respond .ok
        (match s.zones.entry a with
         | .absent => [0, 0, 0, 0]
         | .leaf r l g => [1, rightsByte r, byteOf l, if g then 1 else 0]
         | .branch c => [2, byteOf c, 0, 0])))
    ∧ (2 < param ps 0
        ∨ param ps 0 = 0 ∧ (0 < param ps 1 ∨ 15 < param ps 2)
        ∨ param ps 0 = 1 ∧ (23 < param ps 1 ∨ 31 < param ps 2)
        ∨ param ps 0 = 2 ∧ (47 < param ps 1 ∨ 15 < param ps 2) →
      exec (.zoneRead ps) s = .next (s.commandTaken.respond .badParameter []))

/-- ZONE GENERATION sets the active generation and ZONE FENCE removes exactly the cache entries its parts name, in
their order; neither changes the table. A MACHINE in LISTEN or ONLINE whose zone a fence covers, or at a change of
the active generation, looks its zone up afresh, and the stored result is the lookup's answer (R125, R132, R133,
R135). A CHAIR re-admits in seat index order its HOLDING and SENDING seats: every one at a change of the generation,
and at a fence those whose machine stands in a zone it covers, by its record; each by a lookup in the cache as it
then stands, with ZONE_FAULT naming the seat at a fault and an ADMIT where the terms have changed (R111, R125, R133,
R137, R138). That this ZONE_FAULT stands before the LINE_DROP of an ADMIT the queue refuses is the model's choice
(log 11). The first part is shown where no follow-on lookup is made. -/
def Obligations.ZoneGenerationFenceAndFollowOn : Prop :=
  (∀ (ps : List Byte) (s : State),
      (s.station = .setup ∨ s.blocks = .unset
        ∨ ∃ m, s.blocks = .machine m ∧ m.binding.machineZone = none) →
      (1 ≤ ps.length →
        exec (.zoneGeneration ps) s
          = .next (({ s with zones := { s.zones with generation := param ps 0 } } : State).commandTaken.respond
              .ok []))
      ∧ (∀ zone generation, 5 ≤ ps.length → fenceZone (param ps 0) (param2 ps 1) = some zone →
        fenceGeneration (param ps 3) (param ps 4) = some generation →
        ∃ cache,
          exec (.zoneFence ps) s
            = .next (({ s with zones := { s.zones with cache := cache } } : State).commandTaken.respond .ok [])
          ∧ cache.Sublist s.zones.cache
          ∧ ∀ e ∈ s.zones.cache, e ∉ cache ↔
              (∀ p, zone = some p → overlaps e.covered p = true)
                ∧ (∀ g, generation = some g → e.generation = g ∧ e.result.isGlobal = false)))
  ∧ (∀ (ps : List Byte) (s : State) (m : MachineBlocks) (z : ZoneCode), s.station ≠ .setup →
      s.blocks = .machine m → m.binding.machineZone = some z →
      (1 ≤ ps.length → s.zones.generation ≠ param ps 0 →
        let r := ({ s.zones with generation := param ps 0 } : Zones).lookup z
        ∃ t m', exec (.zoneGeneration ps) s = .next t ∧ t.zones = r.2 ∧ t.blocks = .machine m'
          ∧ m'.binding
            = { m.binding with zoneResult := ⟨r.1.rights, r.1.limit, r.1.fault.isSome⟩ }
          ∧ m'.gate = m.gate.recompute s.config m'.binding
          ∧ t.line = s.line ∧ t.config = s.config ∧ t.station = s.station ∧ t.time = s.time)
      ∧ (∀ zone generation, 5 ≤ ps.length → fenceZone (param ps 0) (param2 ps 1) = some zone →
        fenceGeneration (param ps 3) (param ps 4) = some generation → fenceCovers zone z = true →
        let r := (s.zones.fence zone generation).lookup z
        ∃ t m', exec (.zoneFence ps) s = .next t ∧ t.zones = r.2 ∧ t.blocks = .machine m'
          ∧ m'.binding
            = { m.binding with zoneResult := ⟨r.1.rights, r.1.limit, r.1.fault.isSome⟩ }
          ∧ m'.gate = m.gate.recompute s.config m'.binding
          ∧ t.line = s.line ∧ t.config = s.config ∧ t.station = s.station ∧ t.time = s.time))
  ∧ (∀ (ps : List Byte) (s : State) (c : ChairBlocks), s.station ≠ .setup → s.blocks = .chair c →
      (1 ≤ ps.length → s.zones.generation ≠ param ps 0 →
        let p := readmissions (fun _ => true)
          ({ s.commandTaken with zones := { s.zones with generation := param ps 0 } }, { c with armed := none })
        exec (.zoneGeneration ps) s = .next ((p.1.withChair p.2).respond .ok []))
      ∧ (∀ zone generation, 5 ≤ ps.length → fenceZone (param ps 0) (param2 ps 1) = some zone →
        fenceGeneration (param ps 3) (param ps 4) = some generation →
        let p := readmissions (fenceCovers zone)
          ({ s.commandTaken with zones := s.zones.fence zone generation }, { c with armed := none })
        exec (.zoneFence ps) s = .next ((p.1.withChair p.2).respond .ok [])))

/-- ZONE LOOKUP answers an ordinary lookup: a hit from the cache leaves the cache, a walk that faults leaves
it too, a walk that ends at a LEAF fills it; no stored result changes and no notice is raised; a zone code
above 8191 is refused (R127, R128, R134). -/
def Obligations.ZoneLookupAnswers : Prop :=
  (∀ (ps : List Byte) (s : State), 2 ≤ ps.length → 8191 < param2 ps 0 →
    exec (.zoneLookup ps) s = .next (s.commandTaken.respond .badParameter []))
  ∧ ∀ (ps : List Byte) (s : State) (z : ZoneCode), 2 ≤ ps.length → zoneOf (param2 ps 0) = some z →
    (∀ e, cacheHit s.zones z = some e →
      exec (.zoneLookup ps) s = .next (s.commandTaken.respond .ok
        [0, rightsByte e.result.rights, byteOf e.result.limit, flagByte e.result.isGlobal,
          byteOf (prefixLevel e.covered), 1, byteOf s.zones.generation, byteOf s.zones.cache.length]))
    ∧ (∀ f, cacheHit s.zones z = none → walk s.zones z = .error f →
      exec (.zoneLookup ps) s = .next (s.commandTaken.respond .ok
        [byteOf (faultByte (some f)), 0, 0, 0, 0, 0, byteOf s.zones.generation,
          byteOf s.zones.cache.length]))
    ∧ (∀ p r, cacheHit s.zones z = none → walk s.zones z = .ok (p, r) →
      let cache := fill ⟨p, s.zones.generation, r⟩ s.zones.cache
      exec (.zoneLookup ps) s
        = .next (({ s with zones := { s.zones with cache := cache } } : State).commandTaken.respond .ok
            [0, rightsByte r.rights, byteOf r.limit, flagByte r.isGlobal, byteOf (prefixLevel p), 0,
              byteOf s.zones.generation, byteOf cache.length]))

/-- A lookup that did not fault, made again at once, is answered from the cache with the same rights, limit,
global flag and prefix, and changes the cache no further. A lookup keeps the cache at 8 entries at most, no
two in conflict, every step does the same, and in such a cache at most one entry in use covers any code (R126,
R127, R128). -/
def Obligations.LookupCacheKeepsItsPromises : Prop :=
  (∀ (z : Zones) (code : ZoneCode), (z.lookup code).1.fault = none →
      (z.lookup code).2.lookup code = ({ (z.lookup code).1 with fromCache := true }, (z.lookup code).2))
  ∧ ((∀ (z : Zones) (code : ZoneCode), CacheSound z → CacheSound (z.lookup code).2)
    ∧ (∀ (z : Zones) (code : ZoneCode) (i j : Nat) (a b : CacheEntry), CacheSound z →
        z.cache[i]? = some a → z.cache[j]? = some b → a.inUse z.generation = true →
        b.inUse z.generation = true → covers a.covered code = true → covers b.covered code = true → i = j))
  ∧ (∀ s t : State, CacheSound s.zones → step s = .next t → CacheSound t.zones)

/-! ### The machine's host: R31, R32, R79 to R82 -/

/-- POSITION moves the machine zone: nothing for the zone the machine is in; else the zone is set, the
admitted limit of a bound machine capped at the crawl floor, the zone looked up, the gate recomputed, and
ZONE_FAULT raised for a faulting lookup; a zone code above 8191 is refused (R2, R32, R65, R136). -/
def Obligations.PositionMovesTheZone : Prop :=
  ∀ (ps : List Byte) (s : State) (m : MachineBlocks), s.station ≠ .setup → s.blocks = .machine m →
    2 ≤ ps.length →
    (8191 < param2 ps 0 → exec (.position ps) s = .next (s.commandTaken.respond .badParameter []))
    ∧ (∀ z, zoneOf (param2 ps 0) = some z → m.binding.machineZone = some z →
        exec (.position ps) s = .next (s.commandTaken.respond .ok []))
    ∧ (∀ z, zoneOf (param2 ps 0) = some z → m.binding.machineZone ≠ some z →
        let r := s.zones.lookup z
        let b : Binding := { m.binding with
          machineZone := some z
          zoneResult := zoneResultOf r.1
          admittedLimit :=
            match m.binding.state with
            | .unbound | .orphaned => m.binding.admittedLimit
            | _ => min m.binding.admittedLimit s.config.crawlFloor }
        let t : State := { s.commandTaken with zones := r.2 }
        exec (.position ps) s
          = .next (((t.raises (match r.1.fault with
              | none => []
              | some f => [⟨.zoneFault, none, 0, faultReason f, zoneNumber z⟩])).withMachine b
                (m.gate.recompute s.config b)).respond .ok []))

/-- The halt latch: LOCAL HALT and a HALT from any source, in any binding state, set it, LOCAL RESUME and a
RESUME from the controller at the current epoch clear it, each with the gate recomputed and a HALT notice; a
latch already so is left as it is, without notice. A level of STOP_N taken recomputes the gate, with a
STOP_INPUT notice in ONLINE alone; the strobe timer's expiry ends the pulse, and the strobe output stays
active only under the halt latch (R24, R25, R65, R79, R80, R82, R84). That the Time Base stands at the strobe
timer's deadline or later when its expiry is taken is the model's choice (log 3). -/
def Obligations.HaltLatchAndStopInput : Prop :=
  ((∀ (ps : List Byte) (s : State) (m : MachineBlocks), s.station = .online → s.blocks = .machine m →
      (m.gate.halted = false →
        exec (.localHalt ps) s
          = .next (((s.commandTaken.raise ⟨.halt, none, 0, .none, 1⟩).withMachine m.binding
              (({ m.gate with halted := true } : DriveGate).recompute s.config m.binding)).respond .ok []))
      ∧ (m.gate.halted = true →
        exec (.localHalt ps) s = .next (s.commandTaken.respond .ok []))
      ∧ (m.gate.halted = true →
        exec (.localResume ps) s
          = .next (((s.commandTaken.raise ⟨.halt, none, 0, .none, 0⟩).withMachine m.binding
              (({ m.gate with halted := false } : DriveGate).recompute s.config m.binding)).respond .ok []))
      ∧ (m.gate.halted = false →
        exec (.localResume ps) s = .next (s.commandTaken.respond .ok [])))
    ∧ (∀ (s : State) (m : MachineBlocks) (f : Frame) (rest : List Frame), s.machineHears m f rest →
      f.body = .halt →
      (m.gate.halted = false →
        exec .halt s
          = .next (((s.takeHead rest).raise ⟨.halt, none, f.source, .none, 1⟩).withMachine m.binding
              (({ m.gate with halted := true } : DriveGate).recompute s.config m.binding)))
      ∧ (m.gate.halted = true → exec .halt s = .next (s.takeHead rest)))
    ∧ (∀ (s : State) (m : MachineBlocks) (f : Frame) (rest : List Frame) (e : Nat),
      s.machineHears m f rest → f.body = .resume e → fromController m.binding f.source e = true →
      let b : Binding := { m.binding with misses := 0, seen := true }
      (m.gate.halted = true →
        exec .resume s
          = .next (((s.takeHead rest).raise ⟨.halt, none, f.source, .none, 0⟩).withMachine b
              (({ m.gate with halted := false } : DriveGate).recompute s.config b)))
      ∧ (m.gate.halted = false →
        exec .resume s = .next ((s.takeHead rest).withMachine b (m.gate.recompute s.config b)))))
  ∧ ((∀ (low : Bool) (s : State) (m : MachineBlocks), s.blocks = .machine m → m.gate.stopActive ≠ low →
      let g := ({ m.gate with stopActive := low } : DriveGate).recompute s.config m.binding
      (s.station = .online →
        exec (.stopNTaken low) s
          = .next ((s.raise ⟨.stopInput, none, 0, .none, if low then 1 else 0⟩).withMachine m.binding g))
      ∧ (s.station ≠ .online → exec (.stopNTaken low) s = .next (s.withMachine m.binding g)))
    ∧ (∀ (s : State) (m : MachineBlocks) (d : Nat), s.blocks = .machine m → m.gate.strobeTimer = some d →
      let g := ({ m.gate with strobeTimer := none } : DriveGate).recompute s.config m.binding
      g.strobeActive = m.gate.halted
      ∧ exec .strobeTimerExpiry s
        = .next (({ s with time := max s.time d } : State).withMachine m.binding g)))

/-! ### The Drive Gate: R65 to R84 -/

/-- The reverse ceiling (R71): after every recomputation it is ⌊E × Q / 8⌋; with E at most 250 and Q at most
8 the product is at most 2000; at Q = 8 it is E, at Q = 4 half of E rounded down; it is 0 where E × Q is
below 8, at E = 7 and Q = 1 for one, and whenever E is 0. -/
def Obligations.ReverseCeiling : Prop :=
  (∀ (c : Configuration) (b : Binding) (g : DriveGate),
    (g.recompute c b).reverse = (g.recompute c b).ceiling * c.reverseRatio / 8)
  ∧ (∀ (c : Configuration) (e : Nat),
    (e ≤ 250 → c.reverseRatio ≤ 8 → e * c.reverseRatio ≤ 2000)
    ∧ (c.reverseRatio = 8 → reverseCeiling c e = e)
    ∧ (c.reverseRatio = 4 → reverseCeiling c e = e / 2)
    ∧ (e * c.reverseRatio < 8 → reverseCeiling c e = 0)
    ∧ (e = 7 → c.reverseRatio = 1 → reverseCeiling c e = 0)
    ∧ (e = 0 → reverseCeiling c e = 0))

/-- A recomputation: the combined rights; the effective ceiling, 0 in UNBOUND and ORPHANED, under the halt
latch, under the stop input and without DRIVE, else the degraded ceiling, in TRANSFER at most the ramp
value; the speed output within it, 0 under the stop flag, and within the reverse ceiling backward; the
other outputs under the rights they need (R66, R67, R70, R75, R76, R83). A ramp stands in TRANSFER alone; the
form without it, in a state that no run reaches, is log 20. -/
def Obligations.CeilingAndOutputs : Prop :=
  ∀ (c : Configuration) (b : Binding) (g0 : DriveGate),
    let g := g0.recompute c b
    let base := min (min b.admittedLimit b.contextCap)
      (if b.zoneResult.fault = true ∨ g.combined.drive = false then 0 else b.zoneResult.limit)
    let degraded := base * (c.missLimit - b.misses) / c.missLimit
    let d := g.held.demand
    let stopped := g.halted = true ∨ g.stopActive = true ∨ g.combined.drive = false
    g.combined = ⟨b.admittedRights.view && b.zoneResult.rights.view,
      b.admittedRights.drive && b.zoneResult.rights.drive,
      b.admittedRights.load && b.zoneResult.rights.load,
      b.admittedRights.tip && b.zoneResult.rights.tip⟩
    ∧ ((b.state = .unbound ∨ b.state = .orphaned ∨ stopped → g.ceiling = 0)
      ∧ (¬ stopped → b.state = .bound ∨ (∃ p, b.state = .proposed p) → g.ceiling = degraded)
      ∧ (¬ stopped → ∀ r q, b.state = .transfer r → g.ramp = some q → g.ceiling = min degraded q.value))
    ∧ ((d.stop = true → g.outputs.speed = 0)
      ∧ (d.stop = false → 0 ≤ d.speed → g.outputs.speed = min d.speed g.ceiling)
      ∧ (d.stop = false → d.speed < 0 → g.outputs.speed = -(min (-d.speed) (g.reverse : Int)))
      ∧ -(g.reverse : Int) ≤ g.outputs.speed ∧ g.outputs.speed ≤ g.ceiling)
    ∧ (g.outputs.steer = d.steer
      ∧ (stopped ∨ (g.combined.load = false ∧ g.combined.tip = false) → g.outputs.boom = 0)
      ∧ (¬ stopped → g.combined.load = true ∨ g.combined.tip = true → g.outputs.boom = d.boom)
      ∧ (stopped ∨ d.bucket = 0 ∨ (0 < d.bucket ∧ g.combined.load = false)
          ∨ (d.bucket < 0 ∧ g.combined.tip = false) → g.outputs.bucket = 0)
      ∧ (¬ stopped → (0 < d.bucket ∧ g.combined.load = true) ∨ (d.bucket < 0 ∧ g.combined.tip = true) →
          g.outputs.bucket = d.bucket))
    ∧ (g.driveEnable = true ↔ 0 < g.ceiling)

/-- The ramp timer's expiry raises n by one, held at 255, restarts the timer, and recomputes R and E (R65,
R68, R69; that the interval runs on from the taking is log 3). -/
def Obligations.RampTimerExpiry : Prop :=
  ∀ (s : State) (m : MachineBlocks) (r : Ramp), s.blocks = .machine m → m.gate.ramp = some r →
    let now := max s.time r.deadline
    let n := min 255 (r.expiries + 1)
    let g := ({ m.gate with ramp := some ⟨r.start, n, r.value, now + s.config.rampInterval⟩ } :
      DriveGate).recompute s.config m.binding
    g.ramp = some ⟨r.start, n, min r.start (max s.config.crawlFloor (r.start - s.config.rampStep * n)),
      now + s.config.rampInterval⟩
    ∧ exec .rampTimerExpiry s = .next (({ s with time := now } : State).withMachine m.binding g)

/-! ### Frames a machine takes: R8 to R28, R53 to R62 -/

/-- An ASK at an UNBOUND machine, an ASK of the last controller at an ORPHANED one and a SEIZE at an ORPHANED
one, naming the machine zone with rights that leave DRIVE, bind the chair: the next epoch, the admitted fields,
a context cap of 250, a still slot and a strobe pulse; then GRANT, BEACON and the BINDING notice (R7, R8, R9,
R10, R13, R21, R77, R84). The model's choices: the ceiling the BEACON carries (log 10), and a LINE_DROP before
the BINDING notice (log 11). -/
def Obligations.AskAndSeizeBind : Prop :=
  ∀ (c : Instr) (t : Terms) (s : State) (m : MachineBlocks) (f : Frame) (rest : List Frame),
    s.machineHears m f rest →
    (c = .ask ∧ f.body = .ask t ∧ m.binding.state = .unbound
      ∨ c = .ask ∧ f.body = .ask t ∧ m.binding.state = .orphaned ∧ f.source = m.binding.controller
      ∨ c = .seizeFrame ∧ f.body = .seize t ∧ m.binding.state = .orphaned) →
    m.binding.machineZone = some t.zone →
    (t.rights.drive && (s.zones.lookup t.zone).1.rights.drive) = true →
    let r := s.zones.lookup t.zone
    let e := if m.binding.epoch = 65535 then 1 else m.binding.epoch + 1
    let b : Binding := { m.binding with
      state := .bound, controller := f.source, epoch := e, misses := 0, seen := false
      admittedZone := t.zone, admittedRights := t.rights, admittedLimit := t.limit, contextCap := 250
      zoneResult := zoneResultOf r.1
      heartbeat := some (s.time + s.config.heartbeat)
      beaconTimer := some (s.time + s.config.beaconPeriod) }
    let g := ({ m.gate with
      held := HeldDemand.zero
      ramp := none
      strobeTimer := some (s.time + (s.config.strobeWidth + 1) * 10) } : DriveGate).recompute s.config b
    exec c s = .next (((({ s.takeHead rest with zones := r.2 } : State).sends
        [⟨s.config.station, f.source, .grant e t.zone⟩, beaconFrame s.config b g]).raise
      (bindingChange b)).withMachine b g)

/-- Asks that change no field of the record: an ASK of another chair at an ORPHANED machine is answered
SEIZE_REQUIRED, a SEIZE in any other state NOT_ORPHANED, an ASK at an UNBOUND machine whose zone is unreported
ZONE_CHANGED; in PROPOSED the asker's repeat is answered with PROPOSE to the controller, with no check and no
BEACON, and any other source, the controller too, with BUSY, as is every source in TRANSFER. An ASK or SEIZE that
comes to the checks of a machine in a reported zone, looked up afresh, is refused ZONE_CHANGED when it names another
zone, and else NOT_ADMITTED when the rights leave no DRIVE; but for the lookup's stored result nothing of the record
changes (R8, R10, R11, R12, R13, R21, R136). That a ZONE_FAULT of that lookup stands before the LINE_DROP of a
REFUSE the queue refuses is the model's choice (log 11). -/
def Obligations.AsksRefusedAndRepeated : Prop :=
  (∀ (c : Instr) (t : Terms) (reason : Reason) (s : State) (m : MachineBlocks) (f : Frame)
      (rest : List Frame), s.machineHears m f rest →
      (c = .ask ∧ f.body = .ask t ∧ m.binding.state = .orphaned ∧ f.source ≠ m.binding.controller
          ∧ reason = .seizeRequired
        ∨ c = .seizeFrame ∧ f.body = .seize t ∧ m.binding.state ≠ .orphaned ∧ reason = .notOrphaned
        ∨ c = .ask ∧ f.body = .ask t ∧ (∃ r, m.binding.state = .transfer r) ∧ reason = .busy
        ∨ c = .ask ∧ f.body = .ask t ∧ m.binding.state = .unbound ∧ m.binding.machineZone = none
          ∧ reason = .zoneChanged) →
      exec c s = .next ((s.takeHead rest).send ⟨s.config.station, f.source, .refuse reason⟩))
  ∧ (∀ (t : Terms) (s : State) (m : MachineBlocks) (f : Frame) (rest : List Frame),
      s.machineHears m f rest → f.body = .ask t →
      (∀ p, m.binding.state = .proposed p → f.source = p.asker →
        exec .ask s = .next ((s.takeHead rest).send
          ⟨s.config.station, m.binding.controller, .propose p.asker m.binding.epoch⟩))
      ∧ (∀ p, m.binding.state = .proposed p → f.source ≠ p.asker →
        exec .ask s = .next ((s.takeHead rest).send ⟨s.config.station, f.source, .refuse .busy⟩))
      ∧ (∀ r, m.binding.state = .transfer r →
        exec .ask s = .next ((s.takeHead rest).send ⟨s.config.station, f.source, .refuse .busy⟩)))
  ∧ (∀ (c : Instr) (t : Terms) (z : ZoneCode) (s : State) (m : MachineBlocks) (f : Frame)
      (rest : List Frame), s.machineHears m f rest → m.binding.machineZone = some z →
      (c = .ask ∧ f.body = .ask t ∧ m.binding.state = .unbound
        ∨ c = .ask ∧ f.body = .ask t ∧ m.binding.state = .bound ∧ f.source ≠ m.binding.controller
        ∨ c = .ask ∧ f.body = .ask t ∧ m.binding.state = .orphaned ∧ f.source = m.binding.controller
        ∨ c = .seizeFrame ∧ f.body = .seize t ∧ m.binding.state = .orphaned) →
      let r := s.zones.lookup z
      (t.zone ≠ z ∨ (t.rights.drive && r.1.rights.drive) = false) →
      let b : Binding := { m.binding with zoneResult := zoneResultOf r.1 }
      exec c s = .next (((({ s.takeHead rest with zones := r.2 } : State).raises
          (machineFault m.binding.zoneResult.fault z r.1)).send
            ⟨s.config.station, f.source, .refuse (if t.zone = z then .notAdmitted else .zoneChanged)⟩).withMachine
          b (m.gate.recompute s.config b)))

/-- An ASK by another chair at a BOUND machine, through the admission checks, opens a proposal with a yield
window: PROPOSE to the controller, a BEACON, the BINDING notice; the controller's own ASK is answered with GRANT
and a BEACON and changes no other field of the record (R8, R11). The model's choices: the ceiling the BEACON
carries (log 10), and a LINE_DROP before the BINDING notice (log 11). -/
def Obligations.AskAtABoundMachine : Prop :=
  ∀ (t : Terms) (s : State) (m : MachineBlocks) (f : Frame) (rest : List Frame),
    s.machineHears m f rest → f.body = .ask t → m.binding.state = .bound →
    (f.source ≠ m.binding.controller → m.binding.machineZone = some t.zone →
      (t.rights.drive && (s.zones.lookup t.zone).1.rights.drive) = true →
      let r := s.zones.lookup t.zone
      let b : Binding := { m.binding with
        state := .proposed ⟨f.source, t, s.time + s.config.yieldWindow * 1000⟩
        zoneResult := zoneResultOf r.1
        beaconTimer := some (s.time + s.config.beaconPeriod) }
      let g := m.gate.recompute s.config b
      exec .ask s = .next (((({ s.takeHead rest with zones := r.2 } : State).sends
          [⟨s.config.station, m.binding.controller, .propose f.source m.binding.epoch⟩,
            beaconFrame s.config b g]).raise (bindingChange b)).withMachine b g))
    ∧ (f.source = m.binding.controller →
      exec .ask s = .next (((s.takeHead rest).sends
          [⟨s.config.station, f.source, .grant m.binding.epoch (m.binding.machineZone.getD ZoneCode.zero)⟩,
            beaconFrame s.config m.binding m.gate]).withMachine
        { m.binding with beaconTimer := some (s.time + s.config.beaconPeriod) } m.gate))

/-- A YIELD of the controller in PROPOSED opens a transfer: the next transfer number, the controller as sender,
the asker as receiver, the witness fields at their start, a ramp from the ceiling as it stood; then OPEN, a
BEACON and the BINDING notice (R15, R26, R53, R68). The model's choices: the ceiling the BEACON carries (log
10), and a LINE_DROP before the BINDING notice (log 11). -/
def Obligations.YieldOpensATransfer : Prop :=
  ∀ (e l : Nat) (p : Proposal) (s : State) (m : MachineBlocks) (f : Frame) (rest : List Frame),
    s.machineHears m f rest → f.body = .yield e l → fromController m.binding f.source e = true →
    m.binding.state = .proposed p →
    let n := if m.binding.transferCounter = 255 then 1 else m.binding.transferCounter + 1
    let r : TransferRecord := {
      number := n, sender := m.binding.controller, receiver := p.asker, length := l
      admission := p.terms, witnessIndex := 0, witnessSum := 0xFFFF, witnessedLimit := none
      senderSum := none, lagCount := 0, lastLagBurst := none, firstError := none
      deadline := s.time + s.config.handoverWindow * 1000, startCeiling := m.gate.ceiling }
    let b : Binding := { m.binding with
      state := .transfer r, transferCounter := n, misses := 0, seen := true
      beaconTimer := some (s.time + s.config.beaconPeriod) }
    let g := ({ m.gate with
      ramp := some ⟨m.gate.ceiling, 0, m.gate.ceiling, s.time + s.config.rampInterval⟩ } :
        DriveGate).recompute s.config b
    exec .yield s = .next ((((s.takeHead rest).sends
        [⟨s.config.station, 63, .openTransfer n m.binding.controller p.asker l⟩,
          beaconFrame s.config b g]).raise (bindingChange b)).withMachine b g)

/-- A proposal ends in BOUND with a REFUSE to its asker, a BEACON and the BINDING notice: DECLINED at the
controller's DECLINE, which counts toward the heartbeat, YIELD_TIMEOUT at the yield window's expiry, which
leaves the miss count. A DECLINE of the controller in BOUND and TRANSFER does no more than count toward the
heartbeat; one that is not from the controller at the current epoch has no effect in any state (R4, R17, R18,
R26). The model's choices: the Time Base at the window's expiry (log 3), the ceiling the BEACON carries (log
10), and a LINE_DROP before the BINDING notice (log 11). -/
def Obligations.ProposalEnds : Prop :=
  (∀ (e : Nat) (p : Proposal) (s : State) (m : MachineBlocks) (f : Frame) (rest : List Frame),
    s.machineHears m f rest → f.body = .decline e → fromController m.binding f.source e = true →
    m.binding.state = .proposed p →
    let b : Binding := { m.binding with
      state := .bound, misses := 0, seen := true
      beaconTimer := some (s.time + s.config.beaconPeriod) }
    let g := m.gate.recompute s.config b
    exec .decline s = .next ((((s.takeHead rest).sends
        [⟨s.config.station, p.asker, .refuse .declined⟩, beaconFrame s.config b g]).raise
      (bindingChange b)).withMachine b g))
  ∧ (∀ (e : Nat) (s : State) (m : MachineBlocks) (f : Frame) (rest : List Frame),
    s.machineHears m f rest → f.body = .decline e →
    (fromController m.binding f.source e = true →
      m.binding.state = .bound ∨ (∃ r, m.binding.state = .transfer r) →
      let b : Binding := { m.binding with misses := 0, seen := true }
      exec .decline s = .next ((s.takeHead rest).withMachine b (m.gate.recompute s.config b)))
    ∧ (f.source ≠ m.binding.controller ∨ e ≠ m.binding.epoch ∨ m.binding.state = .unbound
        ∨ m.binding.state = .orphaned →
      exec .decline s = .next (s.takeHead rest)))
  ∧ (∀ (p : Proposal) (s : State) (m : MachineBlocks), s.blocks = .machine m →
    m.binding.state = .proposed p →
    let now := max s.time p.deadline
    let b : Binding := { m.binding with
      state := .bound, beaconTimer := some (now + s.config.beaconPeriod) }
    let g := m.gate.recompute s.config b
    exec .yieldWindowExpiry s = .next (((({ s with time := now } : State).sends
        [⟨s.config.station, p.asker, .refuse .yieldTimeout⟩, beaconFrame s.config b g]).raise
      (bindingChange b)).withMachine b g))

/-- A RELEASE of the controller: in BOUND the machine is unbound, with a still slot; in PROPOSED the asker is bound
with its stored terms, its limit capped at the crawl floor when the machine has left the zone it asked for; in
TRANSFER it is ignored. CLEAR BINDING unbinds from any state: nothing in UNBOUND; in PROPOSED a REFUSE(DECLINED) to
the asker first; in TRANSFER an ABORT first, naming the sender, with its own BINDING notice. The epoch, the transfer
counter and the machine zone stay (R6, R7, R14, R19, R20, R31, R60, R77, R84). The model's choices: the ceiling the
BEACON carries (log 10), and a LINE_DROP before the BINDING notice, of the two notices in TRANSFER that of the
BEACON before the second (log 11). -/
def Obligations.ReleaseAndClearBinding : Prop :=
  (∀ (e : Nat) (s : State) (m : MachineBlocks) (f : Frame) (rest : List Frame),
      s.machineHears m f rest → f.body = .release e → fromController m.binding f.source e = true →
      (m.binding.state = .bound →
        let b : Binding := { Binding.reset with
          epoch := m.binding.epoch
          transferCounter := m.binding.transferCounter
          machineZone := m.binding.machineZone
          zoneResult := m.binding.zoneResult
          beaconTimer := some (s.time + s.config.beaconPeriod) }
        let g := ({ m.gate with held := HeldDemand.zero, ramp := none } : DriveGate).recompute s.config b
        exec .release s = .next ((((s.takeHead rest).send (beaconFrame s.config b g)).raise
          (bindingChange b)).withMachine b g))
      ∧ (∀ p, m.binding.state = .proposed p →
        let e' := if m.binding.epoch = 65535 then 1 else m.binding.epoch + 1
        let b : Binding := { m.binding with
          state := .bound, controller := p.asker, epoch := e', misses := 0, seen := false
          admittedZone := p.terms.zone, admittedRights := p.terms.rights
          admittedLimit := if m.binding.machineZone = some p.terms.zone then p.terms.limit
            else min p.terms.limit s.config.crawlFloor
          contextCap := 250
          heartbeat := some (s.time + s.config.heartbeat)
          beaconTimer := some (s.time + s.config.beaconPeriod) }
        let g := ({ m.gate with
          held := HeldDemand.zero
          ramp := none
          strobeTimer := some (s.time + (s.config.strobeWidth + 1) * 10) } : DriveGate).recompute s.config b
        exec .release s = .next ((((s.takeHead rest).sends
            [⟨s.config.station, p.asker, .grant e' (m.binding.machineZone.getD ZoneCode.zero)⟩,
              beaconFrame s.config b g]).raise (bindingChange b)).withMachine b g))
      ∧ (∀ r, m.binding.state = .transfer r → exec .release s = .next (s.takeHead rest)))
  ∧ (∀ (ps : List Byte) (s : State) (m : MachineBlocks), s.station = .online → s.blocks = .machine m →
      let b : Binding := { Binding.reset with
        epoch := m.binding.epoch
        transferCounter := m.binding.transferCounter
        machineZone := m.binding.machineZone
        zoneResult := m.binding.zoneResult
        beaconTimer := some (s.time + s.config.beaconPeriod) }
      let g : DriveGate := ({ m.gate with held := HeldDemand.zero, ramp := none } : DriveGate).recompute s.config b
      (m.binding.state = .unbound → exec (.clearBinding ps) s = .next (s.commandTaken.respond .ok []))
      ∧ (m.binding.state = .bound ∨ m.binding.state = .orphaned →
        exec (.clearBinding ps) s
          = .next ((((s.commandTaken.send (beaconFrame s.config b g)).raise (bindingChange b)).withMachine b
              g).respond .ok []))
      ∧ (∀ p, m.binding.state = .proposed p →
        exec (.clearBinding ps) s
          = .next ((((s.commandTaken.sends
                [⟨s.config.station, p.asker, .refuse .declined⟩, beaconFrame s.config b g]).raise
              (bindingChange b)).withMachine b g).respond .ok []))
      ∧ (∀ r, m.binding.state = .transfer r →
        exec (.clearBinding ps) s
          = .next ((((((s.commandTaken.send ⟨s.config.station, 63,
                  .abort r.number (r.firstError.getD .localClear) r.sender m.binding.epoch⟩).raise
                ⟨.binding, none, r.sender, .bindingState .bound, m.binding.epoch⟩).send
                (beaconFrame s.config b g)).raise (bindingChange b)).withMachine b g).respond .ok [])))

/-- An ADMIT of the controller that names the machine zone replaces the admitted fields, one that names another
zone leaves them; a DRIVE of the controller replaces the held demand whole; each counts toward the heartbeat
and recomputes the gate, and neither sends a frame; a YIELD of the controller in BOUND and TRANSFER does no more
than that count. A frame that is not from the controller at the current
epoch, or that meets an UNBOUND or ORPHANED machine, is taken without effect (R4, R16, R22, R23, R25, R26,
R65, R74). -/
def Obligations.AdmitDriveAndStaleFrames : Prop :=
  (∀ (e : Nat) (s : State) (m : MachineBlocks) (f : Frame) (rest : List Frame),
      s.machineHears m f rest → fromController m.binding f.source e = true →
      (∀ t, f.body = .admission e t → m.binding.machineZone = some t.zone →
        let b : Binding := { m.binding with
          misses := 0, seen := true, admittedZone := t.zone, admittedRights := t.rights
          admittedLimit := t.limit }
        exec .admitFrame s = .next ((s.takeHead rest).withMachine b (m.gate.recompute s.config b)))
      ∧ (∀ t, f.body = .admission e t → m.binding.machineZone ≠ some t.zone →
        let b : Binding := { m.binding with misses := 0, seen := true }
        exec .admitFrame s = .next ((s.takeHead rest).withMachine b (m.gate.recompute s.config b)))
      ∧ (∀ q d, f.body = .drive e q d →
        let b : Binding := { m.binding with misses := 0, seen := true }
        exec .drive s = .next ((s.takeHead rest).withMachine b
          (({ m.gate with held := ⟨d, some q, some s.time⟩ } : DriveGate).recompute s.config b))))
  ∧ (∀ (c : Instr) (e : Nat) (s : State) (m : MachineBlocks) (f : Frame) (rest : List Frame),
      s.machineHears m f rest →
      (f.source ≠ m.binding.controller ∨ e ≠ m.binding.epoch ∨ m.binding.state = .unbound
        ∨ m.binding.state = .orphaned) →
      (c = .yield ∧ (∃ l, f.body = .yield e l) ∨ c = .decline ∧ f.body = .decline e
        ∨ c = .release ∧ f.body = .release e ∨ c = .admitFrame ∧ (∃ t, f.body = .admission e t)
        ∨ c = .drive ∧ (∃ q d, f.body = .drive e q d) ∨ c = .resume ∧ f.body = .resume e) →
      exec c s = .next (s.takeHead rest))
  ∧ (∀ (e l : Nat) (s : State) (m : MachineBlocks) (f : Frame) (rest : List Frame),
      s.machineHears m f rest → f.body = .yield e l → fromController m.binding f.source e = true →
      m.binding.state = .bound ∨ (∃ r, m.binding.state = .transfer r) →
      let b : Binding := { m.binding with misses := 0, seen := true }
      exec .yield s = .next ((s.takeHead rest).withMachine b (m.gate.recompute s.config b)))

/-- The witness takes a SEGMENT at its index: the words below the length enter the sum in order, the index rises
past them, and word 1, if among them, gives the witnessed limit, at most 250; a SUM of the sender is stored, and
a wrong length, or a wrong sum with all words witnessed, is recorded as the first error. A gap, in a burst it
has sent no LAG for, sends LAG with the witness index to the receiver and counts it; at the fifth the transfer
aborts with the first error or WITNESS_GAP instead. A SEGMENT below the index, one at a witness with every word,
and a further gap of a burst that has had its LAG only count toward the heartbeat; a SEGMENT or SUM of another
source or another transfer has no effect (R26, R33, R54, R55, R56, R59, R60). The model's choices, at the abort:
the ceiling the BEACON carries (log 10), and a LINE_DROP before the BINDING notice (log 11). -/
def Obligations.WitnessJudgesSegmentAndSum : Prop :=
  (∀ (r : TransferRecord) (s : State) (m : MachineBlocks) (f : Frame) (rest : List Frame),
      s.machineHears m f rest → m.binding.state = .transfer r → f.source = r.sender →
      let g := m.gate.recompute s.config { m.binding with misses := 0, seen := true }
      (∀ u i ws, f.body = .segment r.number u i ws → i = r.witnessIndex → r.witnessIndex < r.length →
        1 < r.length →
        let r' := { r with
          witnessSum := crcWords r.witnessSum (ws.take (r.length - i))
          witnessIndex := min (i + ws.length) r.length
          witnessedLimit :=
            if i ≤ 1 ∧ 1 < i + ws.length then some (min (ws.getD (1 - i) 0).toNat 250)
            else r.witnessedLimit }
        exec .witnessSegment s
          = .next ((s.takeHead rest).withMachine
              { m.binding with misses := 0, seen := true, state := .transfer r' } g))
      ∧ (∀ l w, f.body = .sum r.number l w →
        let r' := { r with
          senderSum := some w
          firstError :=
            if r.firstError = none
                ∧ (l ≠ r.length ∨ (r.witnessIndex = r.length ∧ w ≠ r.witnessSum)) then
              some .contextMismatch
            else r.firstError }
        exec .witnessSum s
          = .next ((s.takeHead rest).withMachine
              { m.binding with misses := 0, seen := true, state := .transfer r' } g)))
  ∧ (∀ (r : TransferRecord) (u i : Nat) (ws : List Word) (s : State) (m : MachineBlocks) (f : Frame)
      (rest : List Frame), s.machineHears m f rest → m.binding.state = .transfer r → f.source = r.sender →
      f.body = .segment r.number u i ws → r.witnessIndex < i → r.witnessIndex ≠ r.length →
      r.lastLagBurst ≠ some u →
      (r.lagCount < 4 →
        exec .witnessSegment s
          = .next (((s.takeHead rest).send
              ⟨s.config.station, r.receiver, .lag r.number r.witnessIndex⟩).withMachine
            { m.binding with
              misses := 0, seen := true
              state := .transfer { r with lastLagBurst := some u, lagCount := r.lagCount + 1 } }
            (m.gate.recompute s.config { m.binding with misses := 0, seen := true })))
      ∧ (4 ≤ r.lagCount →
        let b : Binding := { m.binding with
          misses := 0, seen := true, state := .bound, controller := r.sender
          beaconTimer := some (s.time + s.config.beaconPeriod) }
        let g := ({ m.gate with ramp := none } : DriveGate).recompute s.config b
        exec .witnessSegment s = .next ((((s.takeHead rest).sends
            [⟨s.config.station, 63, .abort r.number (r.firstError.getD .witnessGap) r.sender m.binding.epoch⟩,
              beaconFrame s.config b g]).raise (bindingChange b)).withMachine b g)))
  ∧ (∀ (r : TransferRecord) (s : State) (m : MachineBlocks) (f : Frame) (rest : List Frame),
      s.machineHears m f rest → m.binding.state = .transfer r →
      (∀ u i ws, f.body = .segment r.number u i ws → f.source = r.sender →
        (r.witnessIndex = r.length ∨ i < r.witnessIndex ∨ r.witnessIndex < i ∧ r.lastLagBurst = some u) →
        let b : Binding := { m.binding with misses := 0, seen := true }
        exec .witnessSegment s = .next ((s.takeHead rest).withMachine b (m.gate.recompute s.config b)))
      ∧ (∀ n u i ws, f.body = .segment n u i ws → (n ≠ r.number ∨ f.source ≠ r.sender) →
        exec .witnessSegment s = .next (s.takeHead rest))
      ∧ (∀ n l w, f.body = .sum n l w → (n ≠ r.number ∨ f.source ≠ r.sender) →
        exec .witnessSum s = .next (s.takeHead rest)))

/-- An ACCEPT of the receiver that agrees with the witness and with the sender's sum, all words witnessed and no
error recorded, commits the transfer: the receiver bound with its stored terms, the witnessed limit as context
cap, the next epoch; then COMMIT, a BEACON and the BINDING notice (R7, R57, R58, R77, R84). The model's choices:
the ceiling the BEACON carries (log 10), and a LINE_DROP before the BINDING notice (log 11). -/
def Obligations.AcceptCommits : Prop :=
  ∀ (r : TransferRecord) (w : Word) (s : State) (m : MachineBlocks) (f : Frame) (rest : List Frame),
    s.machineHears m f rest → m.binding.state = .transfer r → f.source = r.receiver →
    f.body = .accept r.number w → r.firstError = none → r.witnessIndex = r.length →
    r.senderSum = some w → r.witnessSum = w →
    let e := if m.binding.epoch = 65535 then 1 else m.binding.epoch + 1
    let b : Binding := { m.binding with
      state := .bound, controller := r.receiver, epoch := e, misses := 0, seen := false
      admittedZone := r.admission.zone, admittedRights := r.admission.rights
      admittedLimit := if m.binding.machineZone = some r.admission.zone then r.admission.limit
        else min r.admission.limit s.config.crawlFloor
      contextCap := r.witnessedLimit.getD 250
      heartbeat := some (s.time + s.config.heartbeat)
      beaconTimer := some (s.time + s.config.beaconPeriod) }
    let g := ({ m.gate with
      held := HeldDemand.zero
      ramp := none
      strobeTimer := some (s.time + (s.config.strobeWidth + 1) * 10) } : DriveGate).recompute s.config b
    exec .accept s = .next ((((s.takeHead rest).sends
        [⟨s.config.station, 63, .commit r.receiver e r.number⟩, beaconFrame s.config b g]).raise
      (bindingChange b)).withMachine b g)

/-- A transfer aborts to BOUND with the sender: ABORT to all with the first error or the cause, a BEACON, the
BINDING notice; the epoch and the admitted fields stay. The cause is SENDER_ABANDON or RECEIVER_ABANDON at an
ABANDON of its party, WINDOW_EXPIRED at the handover window's expiry, CONTEXT_MISMATCH at an ACCEPT that
disagrees, the first error at any ACCEPT once one is recorded. With no error recorded, an ACCEPT that finds
words unwitnessed, or no sender's sum, is answered with LAG, of the witness index or of the last word, and
counted; at the fifth LAG the transfer aborts with WITNESS_GAP instead (R57, R59, R60, R61, R62). The model's
choices: the Time Base at the window's expiry (log 3), the ceiling the BEACON carries (log 10), and a LINE_DROP
before the BINDING notice (log 11). -/
def Obligations.TransferAborts : Prop :=
  ∀ (r : TransferRecord) (s : State) (m : MachineBlocks), m.binding.state = .transfer r →
    (∀ (c : Instr) (cause : Reason) (f : Frame) (rest : List Frame), s.machineHears m f rest →
      (c = .abandon ∧ f.source = r.sender ∧ (∃ q, f.body = .abandon r.number q) ∧ cause = .senderAbandon
        ∨ c = .abandon ∧ f.source = r.receiver ∧ r.sender ≠ r.receiver
          ∧ (∃ q, f.body = .abandon r.number q ∧ q ≠ .receiverBusy) ∧ cause = .receiverAbandon
        ∨ c = .abandon ∧ f.source = r.receiver ∧ r.sender ≠ r.receiver
          ∧ f.body = .abandon r.number .receiverBusy ∧ cause = .receiverBusy
        ∨ c = .accept ∧ f.source = r.receiver ∧ r.witnessIndex = r.length
          ∧ (∃ w σ, f.body = .accept r.number w ∧ r.senderSum = some σ
              ∧ (σ ≠ w ∨ w ≠ r.witnessSum)) ∧ cause = .contextMismatch
        ∨ c = .accept ∧ f.source = r.receiver ∧ (∃ w, f.body = .accept r.number w)
          ∧ r.firstError = some cause
        ∨ c = .accept ∧ f.source = r.receiver ∧ (∃ w, f.body = .accept r.number w) ∧ r.firstError = none
          ∧ (r.witnessIndex < r.length ∨ r.witnessIndex = r.length ∧ r.senderSum = none)
          ∧ 4 ≤ r.lagCount ∧ cause = .witnessGap) →
      let b : Binding := { m.binding with
        state := .bound, controller := r.sender
        beaconTimer := some (s.time + s.config.beaconPeriod) }
      let g := ({ m.gate with ramp := none } : DriveGate).recompute s.config b
      exec c s = .next ((((s.takeHead rest).sends
          [⟨s.config.station, 63, .abort r.number (r.firstError.getD cause) r.sender m.binding.epoch⟩,
            beaconFrame s.config b g]).raise (bindingChange b)).withMachine b g))
    ∧ (s.blocks = .machine m →
      let now := max s.time r.deadline
      let b : Binding := { m.binding with
        state := .bound, controller := r.sender
        beaconTimer := some (now + s.config.beaconPeriod) }
      let g := ({ m.gate with ramp := none } : DriveGate).recompute s.config b
      exec .handoverWindowExpiry s = .next (((({ s with time := now } : State).sends
          [⟨s.config.station, 63,
              .abort r.number (r.firstError.getD .windowExpired) r.sender m.binding.epoch⟩,
            beaconFrame s.config b g]).raise (bindingChange b)).withMachine b g))
    ∧ (∀ (w : Word) (j : Nat) (f : Frame) (rest : List Frame), s.machineHears m f rest →
      f.source = r.receiver → f.body = .accept r.number w → r.firstError = none → r.lagCount < 4 →
      (r.witnessIndex < r.length ∧ j = r.witnessIndex
        ∨ r.witnessIndex = r.length ∧ r.senderSum = none ∧ j = r.length - 1) →
      exec .accept s = .next (((s.takeHead rest).send
          ⟨s.config.station, r.receiver, .lag r.number j⟩).withMachine
        { m.binding with state := .transfer { r with lagCount := r.lagCount + 1 } } m.gate))

/-- The heartbeat's expiry: the miss count rises by one unless the seen flag is set, the flag is cleared and the
interval runs on; at the miss limit the machine is ORPHANED, with a still slot and a BEACON, its proposal refused or
its transfer aborted without resulting controller first. The beacon period's expiry queues a BEACON of the record as
it stands and restarts the period (R26, R27, R28, R29, R30, R60, R77). The model's choices: the Time Base at an
expiry and the interval counted anew from it (log 3), the ceiling a BEACON carries (log 10), and a LINE_DROP before
the BINDING notice, of the two notices in TRANSFER that of the BEACON before the second (log 11). -/
def Obligations.HeartbeatAndBeaconExpiry : Prop :=
  (∀ (s : State) (m : MachineBlocks) (d : Nat), s.blocks = .machine m → m.binding.heartbeat = some d →
      let now := max s.time d
      let misses := if m.binding.seen then m.binding.misses else m.binding.misses + 1
      (misses < s.config.missLimit →
        let b : Binding := { m.binding with
          misses := misses, seen := false, heartbeat := some (now + s.config.heartbeat) }
        exec .heartbeatExpiry s
          = .next (({ s with time := now } : State).withMachine b (m.gate.recompute s.config b)))
      ∧ (s.config.missLimit ≤ misses →
        let b : Binding := { m.binding with
          state := .orphaned, misses := misses, seen := false, heartbeat := none
          beaconTimer := some (now + s.config.beaconPeriod) }
        let g := ({ m.gate with held := HeldDemand.zero, ramp := none } : DriveGate).recompute s.config b
        (m.binding.state = .bound →
          exec .heartbeatExpiry s = .next (((({ s with time := now } : State).send
            (beaconFrame s.config b g)).raise (bindingChange b)).withMachine b g))
        ∧ (∀ p, m.binding.state = .proposed p →
          exec .heartbeatExpiry s = .next (((({ s with time := now } : State).sends
            [⟨s.config.station, p.asker, .refuse .yieldTimeout⟩, beaconFrame s.config b g]).raise
            (bindingChange b)).withMachine b g))
        ∧ (∀ r, m.binding.state = .transfer r →
          let b' : Binding := { b with controller := r.sender }
          let g' := ({ m.gate with held := HeldDemand.zero, ramp := none } : DriveGate).recompute s.config b'
          exec .heartbeatExpiry s = .next (((((({ s with time := now } : State).send
              ⟨s.config.station, 63, .abort r.number (r.firstError.getD .senderSilent) 0 m.binding.epoch⟩).raise
              ⟨.binding, none, r.sender, .bindingState .bound, m.binding.epoch⟩).send
              (beaconFrame s.config b' g')).raise (bindingChange b')).withMachine b' g'))))
  ∧ (∀ (s : State) (m : MachineBlocks) (d : Nat), s.blocks = .machine m → m.binding.beaconTimer = some d →
      exec .beaconPeriodExpiry s
        = .next ((({ s with time := max s.time d } : State).send
            ⟨s.config.station, 63,
              .beacon (stateCode m.binding.state) m.binding.controller m.binding.epoch
                (m.binding.machineZone.getD ZoneCode.zero) m.gate.ceiling m.gate.halted
                (match m.binding.state with | .transfer r => r.number | _ => 0)⟩).withMachine
          { m.binding with beaconTimer := some (max s.time d + s.config.beaconPeriod) } m.gate))

/-! ### A chair's host: R89 to R110 -/

/-- SEAT ASK occupies the lowest-numbered FREE seat with an ASK of the chair's terms; on a HOLDING seat whose
machine is ORPHANED with this chair as controller at the seat's epoch it is a reclaim, with ZONE_FAULT where its
lookup faults; otherwise it is refused, in the order of R92, and sends nothing: SEAT_BUSY at every other seat that
names the machine (R91, R92, R93, R138). That a reclaim's ZONE_FAULT stands before the LINE_DROP of an ASK the queue
refuses is the model's choice (log 11). -/
def Obligations.SeatAskOccupiesASeat : Prop :=
  ∀ (ps : List Byte) (s : State) (c : ChairBlocks) (x : Nat), s.chairOnline c → 1 ≤ ps.length →
    param ps 0 = x →
    (x = 0 ∨ 60 < x → exec (.seatAsk ps) s = .next (s.commandTaken.respond .badParameter []))
    ∧ (1 ≤ x → x ≤ 60 → ∀ i rec, c.seatOf x i → c.recordOf x = some rec →
        (c.seats.get i).state = .holding → rec.state = .orphaned → rec.controller = s.config.station →
        rec.epoch = (c.seats.get i).epoch →
        let r := s.zones.lookup rec.zone
        let t := termsFrom rec.zone (c.seats.get i).limit r.1
        exec (.seatAsk ps) s
          = .next (((((({ s.commandTaken with zones := r.2 } : State).raises
              (seatFault i x rec.zone r.1)).send ⟨s.config.station, x, .ask t⟩).withChair
            { c with
              armed := none
              seats := c.seats.set i { c.seats.get i with
                state := .asking, lastAdmitted := t, askRepeated := false, asked := t, proposal := none
                answerWait := some (s.time + s.config.yieldWindow * 1000) } }).respond .ok
            [byteOf i.val])))
    ∧ (1 ≤ x → x ≤ 60 → ∀ i, c.seatOf x i →
        ((c.seats.get i).state ≠ .holding
          ∨ ∀ rec, c.recordOf x = some rec → rec.state ≠ .orphaned ∨ rec.controller ≠ s.config.station
              ∨ rec.epoch ≠ (c.seats.get i).epoch) →
        exec (.seatAsk ps) s = .next (s.commandTaken.respond .seatBusy []))
    ∧ (1 ≤ x → x ≤ 60 → c.unnamed x → c.recordOf x = none →
        exec (.seatAsk ps) s = .next (s.commandTaken.respond .unknownMachine []))
    ∧ (1 ≤ x → x ≤ 60 → c.unnamed x → (c.recordOf x).isSome = true →
        (∀ i, (c.seats.get i).state ≠ .free) →
        exec (.seatAsk ps) s = .next (s.commandTaken.respond .seatsFull []))
    ∧ (1 ≤ x → x ≤ 60 → c.unnamed x → ∀ i rec, c.recordOf x = some rec → c.firstFree i →
        let r := s.zones.lookup rec.zone
        let t := termsFrom rec.zone (c.seats.get i).limit r.1
        exec (.seatAsk ps) s
          = .next ((((({ s.commandTaken with zones := r.2 } : State).send
              ⟨s.config.station, x, .ask t⟩).withChair
            { c with
              armed := none
              seats := c.seats.set i { c.seats.get i with
                state := .asking, machine := x, epoch := rec.epoch, sequence := 0, askRepeated := false, asked := t
                lastAdmitted := t
                answerWait := some (s.time + s.config.yieldWindow * 1000) } }).respond .ok
            [byteOf i.val])))

/-- A seizure takes two commands: SEIZE ARM of an ORPHANED machine that no seat names, with a seat FREE,
arms it, and is else refused, in the order of R108; SEIZE of the machine armed by the command just before
occupies the lowest-numbered FREE seat with a SEIZE frame, and is NOT_ARMED otherwise; every other command
taken and every reset removes the record; the status record's seize-armed flag shows it (R108, R109, R188). -/
def Obligations.SeizureTakesTwoCommands : Prop :=
  (∀ (ps : List Byte) (s : State) (c : ChairBlocks) (x : Nat), s.chairOnline c → 1 ≤ ps.length →
    param ps 0 = x →
    (x = 0 ∨ 60 < x → exec (.seizeArm ps) s = .next (s.commandTaken.respond .badParameter []))
    ∧ (1 ≤ x → x ≤ 60 →
      (c.recordOf x = none → exec (.seizeArm ps) s = .next (s.commandTaken.respond .unknownMachine []))
      ∧ ∀ rec, c.recordOf x = some rec →
        (rec.state ≠ .orphaned → exec (.seizeArm ps) s = .next (s.commandTaken.respond .notOrphaned []))
        ∧ (rec.state = .orphaned → (∃ i, (c.seats.get i).names x = true) →
          exec (.seizeArm ps) s = .next (s.commandTaken.respond .seatBusy []))
        ∧ (rec.state = .orphaned → c.unnamed x → (∀ i, (c.seats.get i).state ≠ .free) →
          exec (.seizeArm ps) s = .next (s.commandTaken.respond .seatsFull []))
        ∧ (rec.state = .orphaned → c.unnamed x → (∃ i, (c.seats.get i).state = .free) →
          exec (.seizeArm ps) s
            = .next ((s.commandTaken.withChair { c with armed := some x }).respond .ok []))))
  ∧ (∀ (ps : List Byte) (s : State) (c : ChairBlocks) (x : Nat), s.chairOnline c → 1 ≤ ps.length →
    param ps 0 = x →
    (c.armed ≠ some x → exec (.seize ps) s = .next (s.commandTaken.respond .notArmed []))
    ∧ (c.armed = some x → (∀ rec, c.recordOf x = some rec → rec.state ≠ .orphaned) →
        exec (.seize ps) s = .next (s.commandTaken.respond .notOrphaned []))
    ∧ (c.armed = some x → ∀ rec, c.recordOf x = some rec → rec.state = .orphaned →
        (∀ i, (c.seats.get i).state ≠ .free) →
        exec (.seize ps) s = .next (s.commandTaken.respond .seatsFull []))
    ∧ (c.armed = some x → ∀ i rec, c.recordOf x = some rec → rec.state = .orphaned → c.firstFree i →
        let r := s.zones.lookup rec.zone
        let t := termsFrom rec.zone (c.seats.get i).limit r.1
        exec (.seize ps) s
          = .next ((((({ s.commandTaken with zones := r.2 } : State).send
              ⟨s.config.station, x, .seize t⟩).withChair
            { c with
              armed := none
              seats := c.seats.set i { c.seats.get i with
                state := .seizing, machine := x, epoch := rec.epoch, sequence := 0, askRepeated := false, asked := t
                lastAdmitted := t
                answerWait := some (s.time + s.config.yieldWindow * 1000) } }).respond .ok
            [byteOf i.val]))))
  ∧ (∀ (i : Instr) (s t : State), (availability i).isSome = true ∨ i = .hardReset →
    (∀ ps, i ≠ .seizeArm ps) → exec i s = .next t → t.armed = none)
  ∧ (∀ s : State, s.statusFlags / 16 = if s.armed.isSome then 1 else 0)

/-- SEAT YIELD on a HOLDING seat with a proposal, the engine IDLE and no other seat SENDING, queues YIELD and
moves the seat to SENDING; SEAT DECLINE queues DECLINE and drops the proposal; SEAT RELEASE frees a HOLDING
seat with a RELEASE and an ASKING, WAITING or SEIZING seat with no frame; otherwise each is refused and
changes nothing (R87, R99, R100, R101, R104). -/
def Obligations.SeatYieldDeclineRelease : Prop :=
  ∀ (ps : List Byte) (s : State) (c : ChairBlocks), s.chairOnline c → 1 ≤ ps.length → param ps 0 ≤ 3 →
    let i := paramSeat ps
    let q := c.seats.get i
    (∀ p, q.state = .holding → q.proposal = some p →
      ((c.engine.active.isSome = true ∨ ∃ j, j ≠ i ∧ (c.seats.get j).state = .sending) →
        exec (.seatYield ps) s = .next (s.commandTaken.respond .engineBusy []))
      ∧ (c.engine.active = none → (∀ j, j ≠ i → (c.seats.get j).state ≠ .sending) → q.area.length < 8 →
        exec (.seatYield ps) s = .next (s.commandTaken.respond .badParameter []))
      ∧ (c.engine.active = none → (∀ j, j ≠ i → (c.seats.get j).state ≠ .sending) → 8 ≤ q.area.length →
        exec (.seatYield ps) s
          = .next (((s.commandTaken.send
              ⟨s.config.station, q.machine, .yield q.epoch q.area.length⟩).withChair
            { c with
              armed := none
              seats := c.seats.set i { q with
                state := .sending
                proposal := some ⟨p.asker, none⟩
                handoverWait :=
                  some (s.time + (s.config.handoverWindow + s.config.yieldWindow) * 1000) } }).respond
            .ok []))
      ∧ exec (.seatDecline ps) s
          = .next (((s.commandTaken.send ⟨s.config.station, q.machine, .decline q.epoch⟩).withChair
            { c with armed := none, seats := c.seats.set i { q with proposal := none } }).respond .ok []))
    ∧ (q.state ≠ .holding ∨ q.proposal = none →
        exec (.seatYield ps) s = .next (s.commandTaken.respond .wrongState [])
        ∧ exec (.seatDecline ps) s = .next (s.commandTaken.respond .wrongState []))
    ∧ (c.engine.locks i = false → q.state = .holding →
        exec (.seatRelease ps) s
          = .next (((s.commandTaken.send ⟨s.config.station, q.machine, .release q.epoch⟩).withChair
              (({ c with armed := none } : ChairBlocks).freed i s.config.fleetAge s.time)).respond .ok []))
    ∧ (c.engine.locks i = false → q.state = .asking ∨ q.state = .waiting ∨ q.state = .seizing →
        exec (.seatRelease ps) s
          = .next ((s.commandTaken.withChair
              (({ c with armed := none } : ChairBlocks).freed i s.config.fleetAge s.time)).respond .ok []))
    ∧ (q.state = .sending ∨ q.state = .receiving ∨ q.state = .free →
        exec (.seatRelease ps) s = .next (s.commandTaken.respond .wrongState []))

/-- SEAT SETPOINT stores clamped demands and restarts their age, and is refused for a FREE seat; SEAT LIMIT stores a
limit cut at 250, and re-admits a HOLDING or SENDING seat: ZONE_FAULT where the lookup faults, and an ADMIT where
the terms change (R105, R111, R138). That the ZONE_FAULT stands before the LINE_DROP of an ADMIT the queue refuses
is the model's choice (log 11). -/
def Obligations.SeatSetpointAndLimit : Prop :=
  ∀ (ps : List Byte) (s : State) (c : ChairBlocks), s.chairOnline c → param ps 0 ≤ 3 →
    let i := paramSeat ps
    let q := c.seats.get i
    (7 ≤ ps.length → q.state ≠ .free →
      let d := paramSetpoints ps
      let d' : Setpoints := {
        speed := max (-250) (min 250 d.speed), steer := max (-100) (min 100 d.steer)
        boom := max (-100) (min 100 d.boom), bucket := max (-100) (min 100 d.bucket), stop := d.stop }
      exec (.seatSetpoint ps) s
        = .next ((s.commandTaken.withChair
            { c with
              armed := none
              seats := c.seats.set i { q with setpoints := d', setpointAt := some s.time } }).respond
          (if d' = d then .ok else .adjusted) []))
    ∧ (7 ≤ ps.length → q.state = .free →
      exec (.seatSetpoint ps) s = .next (s.commandTaken.respond .wrongState []))
    ∧ (2 ≤ ps.length →
      let l := min (param ps 1) 250
      let code : ResponseCode := if param ps 1 ≤ 250 then .ok else .adjusted
      (q.state ≠ .holding → q.state ≠ .sending →
        exec (.seatLimit ps) s
          = .next ((s.commandTaken.withChair
              { c with armed := none, seats := c.seats.set i { q with limit := l } }).respond code []))
      ∧ (q.state = .holding ∨ q.state = .sending → ∀ rec, c.recordOf q.machine = some rec →
          let r := s.zones.lookup rec.zone
          let t := termsFrom rec.zone l r.1
          let u := ({ s.commandTaken with zones := r.2 } : State).raises (seatFault i q.machine rec.zone r.1)
          (t = q.lastAdmitted →
            exec (.seatLimit ps) s
              = .next ((u.withChair
                  { c with armed := none, seats := c.seats.set i { q with limit := l } }).respond code []))
          ∧ (t ≠ q.lastAdmitted →
            exec (.seatLimit ps) s
              = .next (((u.send ⟨s.config.station, q.machine, .admission q.epoch t⟩).withChair
                  { c with
                    armed := none
                    seats := c.seats.set i { q with
                      limit := l, lastAdmitted := t, admitRepeat := some t } }).respond code []))))

/-- SEAT HOLD and SEAT GO at the receiver that serves the seat: HOLD pauses a running burst and sets the host
hold flag; GO clears it, and when no hold cause is left the pause is lifted, with a GO for the same burst
from a pause and for the next burst from a stop; SEAT ABANDON queues ABANDON and ends the transfer, a
receiver's area then empty; of a seat whose receive is pending it drops the receive, and of a seat whose transfer
the engine no longer holds it queues ABANDON again. For a seat that is not the receiving seat of the active
transfer HOLD and GO are refused, and ABANDON for one neither SENDING nor RECEIVING (R38, R47, R49, R52, R104). The
model's choice: a GO from a pause names word 383 where all 384 are held (log 29). -/
def Obligations.SeatHoldGoAbandon : Prop :=
  ∀ (ps : List Byte) (s : State) (c : ChairBlocks), s.chairOnline c → 1 ≤ ps.length → param ps 0 ≤ 3 →
    let i := paramSeat ps
    let me := s.config.station
    (c.engine.active = none
        ∨ (∃ a, c.engine.active = some a ∧ (a.seat ≠ i ∨ ∃ x, a.side = .sender x)) →
      exec (.seatHold ps) s = .next (s.commandTaken.respond .wrongState [])
      ∧ exec (.seatGo ps) s = .next (s.commandTaken.respond .wrongState []))
    ∧ (∀ a r, c.engine.active = some a → a.seat = i → a.side = .receiver r →
      let with_ (b : Nat) (r' : Receiver) : ChairBlocks :=
        { c with
          armed := none
          engine := { c.engine with active := some { a with burst := b, side := .receiver r' } } }
      (r.state = .run →
        exec (.seatHold ps) s
          = .next (((s.commandTaken.send ⟨me, a.peer, .hold a.number a.burst⟩).withChair
              (with_ a.burst { r with hostHold := true, state := .paused, allowance := 3 })).respond .ok []))
      ∧ (r.state ≠ .run →
        exec (.seatHold ps) s
          = .next ((s.commandTaken.withChair (with_ a.burst { r with hostHold := true })).respond .ok []))
      ∧ (r.hostHold = false → exec (.seatGo ps) s = .next (s.commandTaken.respond .ok []))
      ∧ (r.hostHold = true → r.pressure = true →
        exec (.seatGo ps) s
          = .next ((s.commandTaken.withChair (with_ a.burst { r with hostHold := false })).respond .ok []))
      ∧ (r.hostHold = true → r.pressure = false → r.state = .paused →
        exec (.seatGo ps) s
          = .next (((s.commandTaken.send ⟨me, a.peer, .go a.number a.burst (min r.held 383)⟩).withChair
              (with_ a.burst { r with hostHold := false, state := .run, allowance := 3 })).respond .ok []))
      ∧ (r.hostHold = true → r.pressure = false → r.state = .stopped →
        let b := if a.burst = 255 then 1 else a.burst + 1
        exec (.seatGo ps) s
          = .next (((s.commandTaken.send ⟨me, a.peer, .go a.number b r.resumeIndex⟩).withChair
              (with_ b { r with
                hostHold := false, state := .run, burstSeen := false, allowance := 3 })).respond .ok [])))
    ∧ (∀ a, c.engine.active = some a → a.seat = i → c.engine.pendingReceive = none →
      (∀ x, a.side = .sender x → (c.seats.get i).state = .sending →
        exec (.seatAbandon ps) s
          = .next (((s.commandTaken.send ⟨me, a.machine, .abandon a.number .senderAbandon⟩).withChair
              { c with armed := none, engine := ⟨none, none⟩ }).respond .ok []))
      ∧ (∀ x, a.side = .receiver x → (c.seats.get i).state = .receiving →
        exec (.seatAbandon ps) s
          = .next (((s.commandTaken.send ⟨me, a.machine, .abandon a.number .receiverAbandon⟩).withChair
              { c with
                armed := none
                engine := ⟨none, none⟩
                seats := c.seats.set i { c.seats.get i with
                  area := { (c.seats.get i).area with length := 0 } } }).respond .ok [])))
    ∧ ((c.seats.get i).state ≠ .sending → (c.seats.get i).state ≠ .receiving →
      exec (.seatAbandon ps) s = .next (s.commandTaken.respond .wrongState []))
    ∧ ((∀ a, c.engine.active = some a → a.seat ≠ i) →
      let q := c.seats.get i
      (∀ p, c.engine.pendingReceive = some p → p.seat = i → q.state = .receiving →
        exec (.seatAbandon ps) s
          = .next (((s.commandTaken.send ⟨me, p.machine, .abandon p.number .receiverAbandon⟩).withChair
              { c with armed := none, engine := ⟨c.engine.active, none⟩ }).respond .ok []))
      ∧ ((∀ p, c.engine.pendingReceive = some p → p.seat ≠ i) →
        (∀ reason n, q.transfer = some n →
          (q.state = .sending ∧ reason = .senderAbandon
            ∨ q.state = .receiving ∧ reason = .receiverAbandon) →
          exec (.seatAbandon ps) s
            = .next (((s.commandTaken.send ⟨me, q.machine, .abandon n reason⟩).withChair
                { c with armed := none }).respond .ok []))
        ∧ (q.transfer = none → q.state = .sending ∨ q.state = .receiving →
          exec (.seatAbandon ps) s = .next (s.commandTaken.respond .ok []))))

/-- CONTEXT WRITE stores its words and the new length and leaves every other word of the area and every other
seat; a locked area refuses it with COLLIDED, unchanged, and the write-collision flag is set; one out of range is
refused with BAD_PARAMETER (R35, R89). That a command both out of range and to a locked area gets BAD_PARAMETER,
the flag as it was, is the model's choice (log 26). The premise on the area's form is the invariant of StepKeepsStoresCanonical. -/
def Obligations.ContextWriteStoresTheWords : Prop :=
  ∀ (ps : List Byte) (s : State) (c : ChairBlocks), s.chairOnline c → 4 ≤ ps.length → param ps 0 ≤ 3 →
    1 ≤ param ps 3 → param ps 3 ≤ 16 → 6 + 2 * param ps 3 ≤ ps.length →
    let i := paramSeat ps
    let q := c.seats.get i
    (param2 ps 1 + param ps 3 ≤ 384 → param2 ps 4 ≤ 384 → c.engine.locks i = false →
      storeWf (0 : Word) q.area.words = true →
      ∃ words,
        exec (.contextWrite ps) s
          = .next ((s.commandTaken.withChair
              { c with
                armed := none
                seats := c.seats.set i { q with area := ⟨words, param2 ps 4⟩ } }).respond .ok [])
        ∧ ∀ k, storeRead 0 words k
            = if param2 ps 1 ≤ k ∧ k < param2 ps 1 + param ps 3 then
                BitVec.ofNat 16 (param2 ps (6 + 2 * (k - param2 ps 1)))
              else storeRead 0 q.area.words k)
    ∧ (param2 ps 1 + param ps 3 ≤ 384 → param2 ps 4 ≤ 384 → c.engine.locks i = true →
      exec (.contextWrite ps) s
        = .next (({ s with port := { s.port with writeCollision := true } } : State).commandTaken.respond
            .collided []))
    ∧ (384 < param2 ps 1 + param ps 3 ∨ 384 < param2 ps 4 →
      exec (.contextWrite ps) s = .next (s.commandTaken.respond .badParameter []))

/-- HALT MACHINE queues a HALT to any station or to all, with no seat needed; RESUME MACHINE queues a RESUME
with the seat's epoch for a machine this chair holds or is handing over, and is refused otherwise
(R110). -/
def Obligations.HaltAndResumeMachine : Prop :=
  ∀ (ps : List Byte) (s : State) (c : ChairBlocks) (x : Nat), s.chairOnline c → 1 ≤ ps.length →
    param ps 0 = x →
    (1 ≤ x ∧ x ≤ 60 ∨ x = 63 →
      exec (.haltMachine ps) s
        = .next (((s.commandTaken.send ⟨s.config.station, x, .halt⟩).withChair
            { c with armed := none }).respond .ok []))
    ∧ (¬ (1 ≤ x ∧ x ≤ 60 ∨ x = 63) →
      exec (.haltMachine ps) s = .next (s.commandTaken.respond .badParameter []))
    ∧ (∀ i, c.seatOf x i → (c.seats.get i).state = .holding ∨ (c.seats.get i).state = .sending →
      exec (.resumeMachine ps) s
        = .next (((s.commandTaken.send ⟨s.config.station, x, .resume (c.seats.get i).epoch⟩).withChair
            { c with armed := none }).respond .ok []))
    ∧ ((∀ i, (c.seats.get i).names x = true →
          (c.seats.get i).state ≠ .holding ∧ (c.seats.get i).state ≠ .sending) →
      exec (.resumeMachine ps) s = .next (s.commandTaken.respond .seatBusy []))

/-! ### Frames a chair takes: R94 to R103, R107, R111 to R115 -/

/-- A BEACON becomes its machine's record, with the time it was heard, the newest of the Fleet View in place of an
older one; in a full view it takes the place of the oldest record that no seat names; ORPHANED_SEEN is raised when
the record enters ORPHANED. Then the seat that names the machine judges it by its state. Asking seats: BOUND with
this chair as controller makes them HOLDING, anything else leaves them. HOLDING: another controller, or another
epoch outside TRANSFER, frees it with CONFLICT; BOUND drops its proposal with PROPOSAL_ENDED; an ADMIT kept for
repeat goes out again in its zone, its terms then the last admitted ones, and is dropped either way, at an asking
seat too; a new zone re-admits the seat with fresh terms, and ZONE_FAULT where the lookup faults. SENDING and
RECEIVING seats end, or stay, by the rows of R102 and R103 (R38, R87, R91, R94, R98, R102, R103, R107, R111, R112,
R113, R114, R115, R138). The model's choices: a ZONE_FAULT stands before the LINE_DROP of an ADMIT the queue refuses
(log 11), a COMMITTED seat holds no transfer number (log 12), ORPHANED_SEEN stands before the seat's notice, and the
admit repeat comes before the re-admission (log 16). -/
def Obligations.BeaconTaken : Prop :=
  ∀ (st : BindingCode) (ctl e lim tr : Nat) (z : ZoneCode) (hl : Bool) (s : State) (c : ChairBlocks)
      (f : Frame) (rest : List Frame), s.chairHears c f rest → f.body = .beacon st ctl e z lim hl tr →
      c.engine.unpressed →
      let me := s.config.station
      let now := s.time
      let record : FleetRecord := ⟨f.source, st, ctl, e, z, lim, hl, tr, now⟩
      let heard := (s.takeHead rest).raises
        (if st = .orphaned ∧ ∀ o, c.recordOf f.source = some o → o.state ≠ .orphaned then
          [⟨.orphanedSeen, none, f.source, .none, ctl⟩]
        else [])
      let c' : ChairBlocks :=
        { c with fleet := (c.fleet.filter fun o => decide (o.machine ≠ f.source)) ++ [record] }
      ((c.recordOf f.source).isSome = true ∨ c.fleet.length < 32 →
        (c.unnamed f.source → exec .beacon s = .next (heard.withChair c'))
        ∧ ∀ i, c.seatOf f.source i →
          let q := c.seats.get i
          let told (k : NoticeKind) (r : Reason) (value : Nat) : State :=
            heard.raise ⟨k, some i, f.source, r, value⟩
          let seat (q' : Seat) : ChairBlocks := { c' with seats := c.seats.set i q' }
          let ended (committed : Bool) : ChairBlocks := c'.unserved i committed
          let freed : ChairBlocks := (ended false).freed i s.config.fleetAge now
          let repeated (t : Terms) : State :=
            (heard.send ⟨me, f.source, .admission q.epoch t⟩).withChair
              (seat { q with lastAdmitted := t, admitRepeat := none })
          let kept : State := heard.withChair (seat { q with admitRepeat := none })
          (q.state = .asking ∨ q.state = .waiting ∨ q.state = .seizing →
            (st = .bound → ctl = me → q.admitRepeat = none → q.lastAdmitted.zone = z →
              exec .beacon s = .next ((told .granted .none e).withChair
                (seat { q with state := .holding, epoch := e, answerWait := none })))
            ∧ (st ≠ .bound ∨ ctl ≠ me →
              (∀ t, q.admitRepeat = some t → t.zone = z → exec .beacon s = .next (repeated t))
              ∧ ((∀ t, q.admitRepeat = some t → t.zone ≠ z) → exec .beacon s = .next kept)))
          ∧ ((∀ a, c.engine.active = some a → a.seat = i → c.engine.pendingReceive = none) →
            (q.state = .holding → (ctl ≠ me ∨ st ≠ .transfer ∧ e ≠ q.epoch) →
              exec .beacon s = .next ((told .conflict .none ctl).withChair freed))
            ∧ (q.state = .holding → ctl = me → (st = .transfer ∨ e = q.epoch) →
              (∀ p, q.proposal = some p → st = .bound → q.admitRepeat = none → q.lastAdmitted.zone = z →
                exec .beacon s = .next ((told .proposalEnded .none p.asker).withChair
                  (seat { q with proposal := none })))
              ∧ (q.proposal = none ∨ st ≠ .bound →
                (∀ t, q.admitRepeat = some t → t.zone = z → exec .beacon s = .next (repeated t))
                ∧ (q.lastAdmitted.zone = z → (∀ t, q.admitRepeat = some t → t.zone ≠ z) →
                  exec .beacon s = .next kept)
                ∧ (q.lastAdmitted.zone ≠ z → (∀ t, q.admitRepeat = some t → t.zone ≠ z) →
                  let r := s.zones.lookup z
                  let t := termsFrom z q.limit r.1
                  exec .beacon s = .next (((({ heard with zones := r.2 } : State).raises
                      (seatFault i f.source z r.1)).send ⟨me, f.source, .admission q.epoch t⟩).withChair
                    (seat { q with lastAdmitted := t, admitRepeat := some t })))))
            ∧ (q.state = .sending →
              (st = .unbound ∨ st = .orphaned
                  ∨ st = .bound ∧ ctl ≠ me ∧ (∀ p, q.proposal = some p → p.asker ≠ ctl) →
                exec .beacon s = .next ((told .aborted .machineLost 0).withChair freed))
              ∧ (∀ p, st = .bound → ctl ≠ me → q.proposal = some p → p.asker = ctl →
                exec .beacon s = .next ((told .handed .none ctl).withChair freed))
              ∧ (q.admitRepeat = none → q.lastAdmitted.zone = z →
                (st = .bound → ctl = me → tr = 0 →
                  exec .beacon s = .next ((told .aborted .machineLost 1).withChair
                    { ended false with
                      seats := (ended false).seats.set i { (ended false).seats.get i with
                        state := .holding, proposal := none, transfer := none, handoverWait := none } }))
                ∧ (st = .proposed ∨ st = .transfer → exec .beacon s = .next (heard.withChair c'))))
            ∧ (q.state = .receiving →
              (¬ (st = .transfer ∧ q.transfer = some tr) → ¬ (st = .bound ∧ ctl = me ∧ e ≠ q.epoch) →
                exec .beacon s = .next ((told .aborted .machineLost 0).withChair freed))
              ∧ (q.admitRepeat = none →
                (st = .transfer → q.transfer = some tr → exec .beacon s = .next (heard.withChair c'))
                ∧ (st = .bound → ctl = me → e ≠ q.epoch → q.lastAdmitted.zone = z →
                  let mode := (areaWord q.area 0).toNat
                  exec .beacon s = .next ((told .committed .none (if mode ≤ 2 then mode else 0)).withChair
                    { ended true with
                      seats := (ended true).seats.set i { (ended true).seats.get i with
                        state := .holding, epoch := e, sequence := 0, transfer := none
                        handoverWait := none } }))))))
      ∧ (∀ front back old, c.unnamed f.source → c.recordOf f.source = none → 32 ≤ c.fleet.length →
        c.fleet = front ++ old :: back → (∀ o ∈ front, ∃ i, (c.seats.get i).names o.machine = true) →
        c.unnamed old.machine →
        exec .beacon s = .next (heard.withChair { c with fleet := front ++ back ++ [record] }))

/-- GRANT makes a seat that has asked HOLDING at its epoch, and one that no seat names is answered with
RELEASE; PROPOSE makes this chair's ASKING seat WAITING, with the answer wait started anew, and gives a
HOLDING seat at the epoch a proposal record with its own wait (R94, R95, R98). -/
def Obligations.GrantAndProposeAtTheSeat : Prop :=
  ∀ (e : Nat) (s : State) (c : ChairBlocks) (f : Frame) (rest : List Frame), s.chairHears c f rest →
    c.engine.unpressed →
    (∀ z, f.body = .grant e z → c.unnamed f.source →
      exec .grant s = .next (((s.takeHead rest).send ⟨s.config.station, f.source, .release e⟩)))
    ∧ (∀ i, c.seatOf f.source i →
      let q := c.seats.get i
      (∀ z, f.body = .grant e z → q.state = .asking ∨ q.state = .waiting ∨ q.state = .seizing →
        exec .grant s
          = .next (((s.takeHead rest).raise ⟨.granted, some i, f.source, .none, e⟩).withChair
              { c with seats := c.seats.set i { q with
                  state := .holding, epoch := e, answerWait := none } }))
      ∧ (f.body = .propose s.config.station e → f.target ≠ s.config.station → q.state = .asking →
        exec .propose s
          = .next ((s.takeHead rest).withChair
              { c with seats := c.seats.set i { q with
                  state := .waiting, epoch := e
                  answerWait := some (s.time + s.config.yieldWindow * 1000) } }))
      ∧ (∀ asker, f.body = .propose asker e → asker ≠ s.config.station → f.target = s.config.station →
        q.state = .holding → q.epoch = e → q.proposal = none →
        exec .propose s
          = .next (((s.takeHead rest).raise ⟨.proposal, some i, f.source, .none, asker⟩).withChair
              { c with seats := c.seats.set i { q with
                  proposal := some ⟨asker, some (s.time + s.config.yieldWindow * 1000)⟩ } })))

/-- A seat is freed with its notice: REFUSED with the reason of a REFUSE, or NO_ANSWER at the answer wait's
expiry; ABORTED with NO_ANSWER at the local handover wait's expiry, which also ends the transfer that
serves the seat, a receiver's area then empty (R38, R87, R96, R102, R103, R104, R116). That the Time Base stands
at the deadline or later at an expiry is the model's choice (log 3). -/
def Obligations.SeatsFreed : Prop :=
  (∀ (reason : Reason) (s : State) (c : ChairBlocks) (f : Frame) (rest : List Frame) (i : Fin 4),
    s.chairHears c f rest → f.body = .refuse reason → c.engine.unpressed → c.seatOf f.source i →
    ((c.seats.get i).state = .asking ∨ (c.seats.get i).state = .waiting
      ∨ (c.seats.get i).state = .seizing) → c.engine.locks i = false →
    exec .refuse s
      = .next (((s.takeHead rest).raise ⟨.refused, some i, f.source, reason, 0⟩).withChair
          (c.freed i s.config.fleetAge s.time)))
  ∧ (∀ (s : State) (c : ChairBlocks) (i : Fin 4) (d : Nat), s.blocks = .chair c →
    let q := c.seats.get i
    let now := max s.time d
    (q.answerWait = some d → c.engine.locks i = false →
      exec (.answerWaitExpiry i) s
        = .next ((({ s with time := now } : State).raise
            ⟨.refused, some i, q.machine, .noAnswer, 0⟩).withChair (c.freed i s.config.fleetAge now)))
    ∧ (q.handoverWait = some d → c.engine.locks i = false →
      exec (.localHandoverWaitExpiry i) s
        = .next ((({ s with time := now } : State).raise
            ⟨.aborted, some i, q.machine, .noAnswer, 0⟩).withChair (c.freed i s.config.fleetAge now)))
    ∧ (∀ a, q.handoverWait = some d → c.engine.active = some a → a.seat = i →
      c.engine.pendingReceive = none →
      let length :=
        match a.side with
        | .sender _ => q.area.length
        | .receiver _ => 0
      exec (.localHandoverWaitExpiry i) s
        = .next ((({ s with time := now } : State).raise
            ⟨.aborted, some i, q.machine, .noAnswer, 0⟩).withChair
          (({ c with
            engine := ⟨none, none⟩
            seats := c.seats.set i { q with area := { q.area with length := length } } } :
              ChairBlocks).freed i s.config.fleetAge now))))

/-- A chair's other timers: the drive period queues one DRIVE for each seat HOLDING or SENDING, in seat order, with
the seat's epoch, sequence and demand, and raises each sequence; past the host silence limit the demand is a stand
that keeps the steer; the ask repeat sends the ASK once more with the terms it first carried, which are then the
last admitted ones; the local proposal wait drops the proposal with PROPOSAL_ENDED; a record that no seat names ages
out (R91, R92, R98, R106, R116). The model's choices: the Time Base at an expiry and the drive period counted anew
from it (log 3), and half the wait counted back from its deadline (log 22). -/
def Obligations.ChairTimers : Prop :=
  ∀ (s : State) (c : ChairBlocks), s.blocks = .chair c →
    (∀ d, c.driveTimer = some d →
      let now := max s.time d
      ∃ seats,
        exec .drivePeriodExpiry s
          = .next ((({ s with time := now } : State).sends
              ((seatOrder.filter fun i => (c.seats.get i).drives).map fun i =>
                ⟨s.config.station, (c.seats.get i).machine,
                  .drive (c.seats.get i).epoch (c.seats.get i).sequence
                    ((c.seats.get i).demand s.config.hostSilence now)⟩)).withChair
            { c with seats := seats, driveTimer := some (now + s.config.drivePeriod) })
        ∧ ∀ i, seats.get i
            = if (c.seats.get i).drives then
                { c.seats.get i with sequence := ((c.seats.get i).sequence + 1) % 256 }
              else c.seats.get i)
    ∧ (∀ (q : Seat) (silence now : Nat),
      ((∃ t, q.setpointAt = some t ∧ now - t ≤ silence) → q.demand silence now = q.setpoints)
      ∧ (q.setpointAt = none ∨ (∃ t, q.setpointAt = some t ∧ silence < now - t) →
        q.demand silence now = ⟨0, q.setpoints.steer, 0, 0, true⟩)
      ∧ (q.drives = true ↔ q.state = .holding ∨ q.state = .sending))
    ∧ (∀ i d, (c.seats.get i).answerWait = some d → (c.seats.get i).state = .asking →
      (c.seats.get i).askRepeated = false →
      exec (.askRepeat i) s
        = .next ((({ s with time := max s.time (d - s.config.yieldWindow * 500) } : State).send
            ⟨s.config.station, (c.seats.get i).machine, .ask (c.seats.get i).asked⟩).withChair
          { c with seats := c.seats.set i { c.seats.get i with
            askRepeated := true, lastAdmitted := (c.seats.get i).asked } }))
    ∧ (∀ i asker d, (c.seats.get i).proposal = some ⟨asker, some d⟩ →
      exec (.localProposalWaitExpiry i) s
        = .next ((({ s with time := max s.time d } : State).raise
            ⟨.proposalEnded, some i, (c.seats.get i).machine, .none, asker⟩).withChair
          { c with seats := c.seats.set i { c.seats.get i with proposal := none } }))
    ∧ (∀ x r, c.recordOf x = some r →
      (c.unnamed x →
        exec (.ageOut x) s
          = .next (({ s with time := max s.time (r.heardAt + s.config.fleetAge) } : State).withChair
              { c with fleet := c.fleet.filter fun r => decide (r.machine ≠ x) }))
      ∧ ((∃ i, c.seatOf x i) → exec (.ageOut x) s = .next s))

/-! ### The Transfer Engine: R37 to R51, R96, R102, R103 -/

/-- OPEN at a chair whose engine is IDLE: its SENDING seat makes it sender, with the seat's own length and
sum, in SEND_WAIT; its ASKING or WAITING seat makes it receiver, RECEIVING with an empty area, with GO for
burst 1; a receiver whose engine is at work holds the receive as pending, without GO; with no such seat it
answers ABANDON (R35, R37, R39, R44, R97). The model's choices: the segments a new sender counts are those in the
transmit queue (log 9), and a receiving seat with no record of its machine keeps its epoch (log 14). -/
def Obligations.OpenStartsTheEngine : Prop :=
  ∀ (n sd rc l : Nat) (s : State) (c : ChairBlocks) (f : Frame) (rest : List Frame),
    s.chairHears c f rest → f.body = .openTransfer n sd rc l →
    let me := s.config.station
    (sd = me → c.engine.active = none → ∀ i, c.seatOf f.source i → (c.seats.get i).state = .sending →
      exec .openTransfer s
        = .next ((s.takeHead rest).withChair
            { c with
              seats := c.seats.set i { c.seats.get i with transfer := some n }
              engine := { c.engine with
                active := some ⟨i, f.source, n, rc, l, 0,
                  .sender ⟨.wait, (c.seats.get i).area.length, 0,
                    contextSum (c.seats.get i).area (c.seats.get i).area.length,
                    segmentCount s.line.queue⟩⟩ } }))
    ∧ (sd ≠ me → rc = me → c.engine.pendingReceive = none → ∀ i, c.seatOf f.source i →
      (c.seats.get i).state = .asking ∨ (c.seats.get i).state = .waiting →
      let q : Seat := { c.seats.get i with
        state := .receiving
        transfer := some n
        epoch := ((c.recordOf f.source).map (·.epoch)).getD (c.seats.get i).epoch
        answerWait := none
        handoverWait := some (s.time + (s.config.handoverWindow + s.config.yieldWindow) * 1000) }
      (c.engine.active = none →
        exec .openTransfer s
          = .next (((s.takeHead rest).send ⟨me, sd, .go n 1 0⟩).withChair
              { c with
                seats := c.seats.set i { q with area := { q.area with length := 0 } }
                engine := ⟨some ⟨i, f.source, n, sd, l, 1, .receiver ⟨.run, 0, 0, false, 3, false, false⟩⟩,
                  none⟩ }))
      ∧ (∀ a, c.engine.active = some a → ¬ (a.machine = f.source ∧ a.number = n) → c.engine.unpressed →
        exec .openTransfer s
          = .next ((s.takeHead rest).withChair
              { c with
                seats := c.seats.set i q
                engine := ⟨some a, some ⟨f.source, n, sd, l, i⟩⟩ })))
    ∧ (sd ≠ me → rc = me → c.engine.active = none → c.engine.pendingReceive = none →
      c.unnamed f.source →
      exec .openTransfer s
        = .next ((s.takeHead rest).send ⟨me, f.source, .abandon n .receiverAbandon⟩))

/-- A receiver in RECV_RUN: a SEGMENT of its burst at the held count is stored and counted; a SUM with every
word held is answered with ACCEPT of its own sum, in RECV_CHECK; a gap, a SUM that finds words missing and
a LAG recover from a word index: HOLD, STOP and a GO for the next burst. In RECV_PAUSED up to the allowance of
segments is judged the same, a SUM too, and a recovery queues STOP and waits in RECV_STOPPED; there segments and
SUMs are ignored and a LAG lowers the resume index; in RECV_CHECK segments are ignored, a SUM is answered with
ACCEPT again and a LAG recovers, at once or, under a hold cause, from RECV_STOPPED. A duplicate only marks the burst
seen; a SEGMENT of another burst, transfer or source, a SUM of a burst not yet seen and a LAG past the length are
ignored (R45, R46, R48, R50, R51). -/
def Obligations.ReceiverTakesTheContext : Prop :=
  (∀ (s : State) (c : ChairBlocks) (f : Frame) (rest : List Frame) (a : ActiveTransfer) (r : Receiver),
      s.chairHears c f rest → c.engine.active = some a → a.side = .receiver r → r.state = .run →
      r.pressure = false →
      let me := s.config.station
      let area := (c.seats.get a.seat).area
      let engine (b : Nat) (r' : Receiver) : Engine :=
        { c.engine with active := some { a with burst := b, side := .receiver r' } }
      (∀ i ws, f.source = a.peer → f.body = .segment a.number a.burst i ws → i = r.held → i < a.length →
        exec .receiverSegment s
          = .next ((s.takeHead rest).withChair
              { c with
                seats := c.seats.set a.seat { c.seats.get a.seat with
                  area := { area with words := storeWriteList 0 i (ws.take (a.length - i)) area.words } }
                engine := engine a.burst { r with burstSeen := true, held := r.held + ws.length } }))
      ∧ (∀ l w, f.source = a.peer → f.body = .sum a.number l w → a.length ≤ r.held →
        exec .receiverSum s
          = .next (((s.takeHead rest).send
              ⟨me, a.machine, .accept a.number (contextSum area a.length)⟩).withChair
            { c with engine := engine a.burst { r with state := .check } }))
      ∧ (∀ (k : Instr) (j : Nat),
        (k = .receiverSegment ∧ f.source = a.peer ∧ j = r.held
            ∧ (∃ i ws, f.body = .segment a.number a.burst i ws ∧ r.held < i)
          ∨ k = .receiverSum ∧ f.source = a.peer ∧ j = r.held ∧ r.held < a.length ∧ r.burstSeen = true
            ∧ (∃ l w, f.body = .sum a.number l w)
          ∨ k = .lag ∧ f.source = a.machine
            ∧ (∃ w, f.body = .lag a.number w ∧ w < a.length ∧ j = min w r.held)) →
        let b := if a.burst = 255 then 1 else a.burst + 1
        exec k s
          = .next (((s.takeHead rest).sends
              [⟨me, a.peer, .hold a.number a.burst⟩, ⟨me, a.peer, .stop a.number a.burst⟩,
                ⟨me, a.peer, .go a.number b j⟩]).withChair
            { c with engine := engine b { r with
                resumeIndex := j, state := .run, burstSeen := false, allowance := 3 } })))
  ∧ (∀ (s : State) (c : ChairBlocks) (f : Frame) (rest : List Frame) (a : ActiveTransfer) (r : Receiver),
      s.chairHears c f rest → c.engine.active = some a → a.side = .receiver r →
      (r.pressure = true → 2 < rest.length) →
      let me := s.config.station
      let q := c.seats.get a.seat
      let engine (b : Nat) (r' : Receiver) : Engine :=
        { c.engine with active := some { a with burst := b, side := .receiver r' } }
      let accepted : State :=
        ((s.takeHead rest).send ⟨me, a.machine, .accept a.number (contextSum q.area a.length)⟩).withChair
          { c with engine := engine a.burst { r with state := .check } }
      let stopped (r' : Receiver) : State :=
        ((s.takeHead rest).send ⟨me, a.peer, .stop a.number a.burst⟩).withChair
          { c with engine := engine a.burst { r' with state := .stopped } }
      (∀ n u i ws, f.body = .segment n u i ws →
        (n ≠ a.number ∨ f.source ≠ a.peer ∨ u ≠ a.burst ∨ r.state = .stopped ∨ r.state = .check
          ∨ r.state = .paused ∧ r.allowance = 0) →
        exec .receiverSegment s = .next (s.takeHead rest))
      ∧ (∀ i ws, f.source = a.peer → f.body = .segment a.number a.burst i ws →
        (i < r.held ∨ i = r.held ∧ a.length ≤ r.held) →
        (r.state = .run →
          exec .receiverSegment s = .next ((s.takeHead rest).withChair
            { c with engine := engine a.burst { r with burstSeen := true } }))
        ∧ (r.state = .paused → r.allowance ≠ 0 →
          exec .receiverSegment s = .next ((s.takeHead rest).withChair
            { c with engine := engine a.burst { r with burstSeen := true, allowance := r.allowance - 1 } })))
      ∧ (∀ i ws, f.source = a.peer → f.body = .segment a.number a.burst i ws → r.state = .paused →
        r.allowance ≠ 0 →
        (i = r.held → i < a.length →
          exec .receiverSegment s = .next ((s.takeHead rest).withChair
            { c with
              seats := c.seats.set a.seat { q with
                area := { q.area with words := storeWriteList 0 i (ws.take (a.length - i)) q.area.words } }
              engine := engine a.burst { r with
                burstSeen := true, allowance := r.allowance - 1, held := r.held + ws.length } }))
        ∧ (r.held < i →
          exec .receiverSegment s = .next (stopped { r with
            burstSeen := true, allowance := r.allowance - 1, resumeIndex := r.held })))
      ∧ (∀ l w, f.source = a.peer → f.body = .sum a.number l w →
        (r.state = .paused ∧ a.length ≤ r.held ∨ r.state = .check →
          exec .receiverSum s = .next accepted)
        ∧ (r.state = .paused → r.held < a.length → r.burstSeen = true →
          exec .receiverSum s = .next (stopped { r with resumeIndex := r.held }))
        ∧ (r.state = .stopped
            ∨ (r.state = .run ∨ r.state = .paused) ∧ r.held < a.length ∧ r.burstSeen = false →
          exec .receiverSum s = .next (s.takeHead rest)))
      ∧ (∀ w, f.source = a.machine → f.body = .lag a.number w →
        let j := min w r.held
        (a.length ≤ w → exec .lag s = .next (s.takeHead rest))
        ∧ (w < a.length →
          (r.state = .paused ∨ r.state = .check ∧ (r.hostHold = true ∨ r.pressure = true) →
            exec .lag s = .next (stopped { r with resumeIndex := j }))
          ∧ (r.state = .stopped →
            exec .lag s = .next ((s.takeHead rest).withChair
              { c with engine := engine a.burst { r with resumeIndex := min r.resumeIndex j } }))
          ∧ (r.state = .check → r.hostHold = false → r.pressure = false →
            let b := if a.burst = 255 then 1 else a.burst + 1
            exec .lag s = .next (((s.takeHead rest).sends
                [⟨me, a.peer, .stop a.number a.burst⟩, ⟨me, a.peer, .go a.number b j⟩]).withChair
              { c with engine := engine b { r with
                  resumeIndex := j, state := .run, burstSeen := false, allowance := 3 } })))))

/-- HOLD at the sender (R42): of the current burst in SEND_RUN it pauses the sender and changes nothing else,
so that the segments queued stay queued and the position stays; in every other state, and of every other
burst, it is ignored. -/
def Obligations.SenderTakesHold : Prop :=
  ∀ (u : Nat) (s : State) (c : ChairBlocks) (f : Frame) (rest : List Frame) (a : ActiveTransfer)
    (r : Sender), s.chairHears c f rest → c.engine.active = some a → a.side = .sender r →
    f.source = a.peer → f.body = .hold a.number u →
    (u = a.burst → r.state = .run →
      exec .hold s
        = .next ((s.takeHead rest).withChair
            { c with engine := { c.engine with
                active := some { a with side := .sender { r with state := .paused } } } }))
    ∧ (u = a.burst → r.state = .wait ∨ r.state = .paused ∨ r.state = .done →
      exec .hold s = .next (s.takeHead rest))
    ∧ (u ≠ a.burst → exec .hold s = .next (s.takeHead rest))

/-- GO and STOP at the sender. A GO of a new burst starts it from its word index: with no segment of its own queued
and the queue empty the first three segments of 8 words, or a last one and the SUM; at once the SUM when the index
is at the sender's length; in SEND_RUN after every waiting SEGMENT of the transfer is withdrawn. A GO of the current
burst resumes SEND_PAUSED from the position as it stood, and is ignored in every other state. A STOP of the current
burst withdraws every waiting SEGMENT of the transfer and returns to SEND_WAIT, and in SEND_WAIT, or of another
burst, is ignored (R40, R41, R43, R154). -/
def Obligations.SenderTakesGoAndStop : Prop :=
  ∀ (u : Nat) (s : State) (c : ChairBlocks) (f : Frame) (rest : List Frame) (a : ActiveTransfer)
    (r : Sender), s.chairHears c f rest → c.engine.active = some a → a.side = .sender r →
    f.source = a.peer →
    let me := s.config.station
    let area := (c.seats.get a.seat).area
    let taken := s.takeHead rest
    let kept := s.line.waiting.filter fun e => !isSegmentOf a.number e.frame
    let gone := s.line.waiting.countP fun e => isSegmentOf a.number e.frame
    let cut : State := { taken with line := { s.line with
      fifo := rest
      queue := s.line.onLine ++ kept
      transmitter := if s.line.transmitter = .sending then .sending else transmitterFor kept } }
    let engine (b : Nat) (r' : Sender) : ChairBlocks :=
      { c with engine := { c.engine with active := some { a with burst := b, side := .sender r' } } }
    let seg (b k n : Nat) : Frame := ⟨me, a.peer, .segment a.number b k (areaWordsFrom area k n)⟩
    let sum : Frame := ⟨me, a.peer, .sum a.number r.length r.sum⟩
    let three (b k : Nat) : List Frame := [seg b k 8, seg b (k + 8) 8, seg b (k + 16) 8]
    (∀ j, f.body = .go a.number u j → u ≠ a.burst →
      (r.state ≠ .run →
        (s.line.queue = [] → r.queued = 0 → j + 24 < r.length →
          exec .go s = .next ((taken.sends (three u j)).withChair
            (engine u { r with state := .run, position := j + 24, queued := 3 })))
        ∧ (s.line.queue = [] → r.queued = 0 → j < r.length → r.length ≤ j + 8 →
          exec .go s = .next ((taken.sends [seg u j (r.length - j), sum]).withChair
            (engine u { r with state := .done, position := r.length, queued := 1 })))
        ∧ (r.length ≤ j →
          exec .go s = .next ((taken.send sum).withChair
            (engine u { r with state := .done, position := j }))))
      ∧ (r.state = .run →
        (s.line.transmitter ≠ .sending → kept = [] → r.queued = gone → j + 24 < r.length →
          exec .go s = .next ((cut.sends (three u j)).withChair
            (engine u { r with state := .run, position := j + 24, queued := 3 })))
        ∧ (r.length ≤ j →
          exec .go s = .next ((cut.send sum).withChair
            (engine u { r with state := .done, position := j, queued := r.queued - gone })))))
    ∧ (∀ j, f.body = .go a.number a.burst j →
      (r.state ≠ .paused → exec .go s = .next taken)
      ∧ (r.state = .paused →
        (r.length ≤ r.position →
          exec .go s = .next ((taken.send sum).withChair (engine a.burst { r with state := .done })))
        ∧ (r.position < r.length → 3 ≤ r.queued →
          exec .go s = .next (taken.withChair (engine a.burst { r with state := .run })))
        ∧ (s.line.queue = [] → r.queued = 0 → r.position + 24 < r.length →
          exec .go s = .next ((taken.sends (three a.burst r.position)).withChair
            (engine a.burst { r with state := .run, position := r.position + 24, queued := 3 })))))
    ∧ (f.body = .stop a.number a.burst → r.state ≠ .wait →
      exec .stop s = .next (cut.withChair
        (engine a.burst { r with state := .wait, queued := r.queued - gone })))
    ∧ (f.body = .stop a.number u → u ≠ a.burst ∨ r.state = .wait → exec .stop s = .next taken)

/-- COMMIT and ABORT at the chairs. At the active transfer's: a COMMIT to another chair frees the sender's seat with
HANDED; a COMMIT to this one makes the receiver's HOLDING at the new epoch, its area as long as the context, with
COMMITTED and the drive mode of word 0, and a COMMIT to another frees it with MACHINE_LOST; an ABORT that names this
chair returns the sender's seat to HOLDING, any other frees it, and every ABORT frees the receiver's, its area
empty, with ABORTED and the reason. The pending receive of a COMMIT or ABORT is dropped, its area as it was, and one
whose turn has come is taken up, with its GO. A WAITING seat is freed by an ABORT; an ASKING or SEIZING one is left
(R33, R38, R44, R87, R96, R102, R103, R113). The model's choices: a COMMITTED seat holds no transfer number (log
12), the COMMIT or ABORT acts before the engine is told the FIFO's depth (log 15), and the GO of a receive taken up
is queued before the seat's notice (log 27). -/
def Obligations.CommitAndAbortEndTheTransfer : Prop :=
  (∀ (s : State) (c : ChairBlocks) (f : Frame) (rest : List Frame) (a : ActiveTransfer) (e ctl : Nat)
      (reason : Reason), s.chairHears c f rest → c.engine = ⟨some a, none⟩ → a.machine = f.source →
      c.seatOf f.source a.seat → (c.seats.get a.seat).transfer = some a.number →
      let i := a.seat
      let q := c.seats.get i
      let me := s.config.station
      let idle (length : Nat) : ChairBlocks := { c with
        engine := ⟨none, none⟩
        seats := c.seats.set i { q with area := { q.area with length := length } } }
      let told (k : NoticeKind) (r : Reason) (value : Nat) : State :=
        (s.takeHead rest).raise ⟨k, some i, f.source, r, value⟩
      (∀ x, a.side = .sender x → q.state = .sending →
        (f.body = .commit ctl e a.number → ctl ≠ me →
          exec .commit s = .next ((told .handed .none ctl).withChair
            ((idle q.area.length).freed i s.config.fleetAge s.time)))
        ∧ (f.body = .abort a.number reason me e →
          exec .abort s = .next ((told .aborted reason 1).withChair
            { c with
              engine := ⟨none, none⟩
              seats := c.seats.set i { q with
                state := .holding, proposal := none, transfer := none, handoverWait := none } }))
        ∧ (f.body = .abort a.number reason ctl e → ctl ≠ me →
          exec .abort s = .next ((told .aborted reason 0).withChair
            ((idle q.area.length).freed i s.config.fleetAge s.time))))
      ∧ (∀ x, a.side = .receiver x → q.state = .receiving →
        (f.body = .commit me e a.number →
          let mode := (areaWord q.area 0).toNat
          exec .commit s = .next ((told .committed .none (if mode ≤ 2 then mode else 0)).withChair
            { c with
              engine := ⟨none, none⟩
              seats := c.seats.set i { q with
                state := .holding, epoch := e, sequence := 0, transfer := none, handoverWait := none
                area := { q.area with length := a.length } } }))
        ∧ (f.body = .abort a.number reason ctl e →
          exec .abort s = .next ((told .aborted reason 0).withChair
            ((idle 0).freed i s.config.fleetAge s.time)))
        ∧ (f.body = .commit ctl e a.number → ctl ≠ me →
          exec .commit s = .next ((told .aborted .machineLost 0).withChair
            ((idle a.length).freed i s.config.fleetAge s.time)))))
  ∧ (∀ (s : State) (c : ChairBlocks) (f : Frame) (rest : List Frame) (a : ActiveTransfer) (p : PendingReceive)
      (e ctl : Nat) (reason : Reason), s.chairHears c f rest → c.engine = ⟨some a, some p⟩ →
      p.seat ≠ a.seat →
      let me := s.config.station
      (c.engine.unpressed → p.machine = f.source → a.machine ≠ p.machine ∨ a.number ≠ p.number →
        c.seatOf f.source p.seat → (c.seats.get p.seat).transfer = some p.number →
        (c.seats.get p.seat).state = .receiving →
        let q := c.seats.get p.seat
        let dropped : ChairBlocks := { c with engine := ⟨some a, none⟩ }
        let told (k : NoticeKind) (r : Reason) (value : Nat) : State :=
          (s.takeHead rest).raise ⟨k, some p.seat, f.source, r, value⟩
        (f.body = .abort p.number reason ctl e →
          exec .abort s = .next ((told .aborted reason 0).withChair
            (dropped.freed p.seat s.config.fleetAge s.time)))
        ∧ (f.body = .commit me e p.number →
          let mode := (areaWord q.area 0).toNat
          exec .commit s = .next ((told .committed .none (if mode ≤ 2 then mode else 0)).withChair
            { dropped with seats := c.seats.set p.seat { q with
                state := .holding, epoch := e, sequence := 0, transfer := none, handoverWait := none } })))
      ∧ (∀ x, a.side = .sender x → a.machine = f.source → c.seatOf f.source a.seat →
        (c.seats.get a.seat).transfer = some a.number → (c.seats.get a.seat).state = .sending →
        (c.seats.get p.seat).state = .receiving → f.body = .abort a.number reason me e →
        let q := c.seats.get a.seat
        let w := c.seats.get p.seat
        exec .abort s = .next ((((s.takeHead rest).send ⟨me, p.sender, .go p.number 1 0⟩).raise
            ⟨.aborted, some a.seat, f.source, reason, 1⟩).withChair
          { c with
            engine := ⟨some ⟨p.seat, p.machine, p.number, p.sender, p.length, 1,
              .receiver ⟨.run, 0, 0, false, 3, false, false⟩⟩, none⟩
            seats := (c.seats.set p.seat { w with area := { w.area with length := 0 } }).set a.seat { q with
              state := .holding, proposal := none, transfer := none, handoverWait := none } })))
  ∧ (∀ (s : State) (c : ChairBlocks) (f : Frame) (rest : List Frame) (i : Fin 4) (n e ctl : Nat)
      (reason : Reason), s.chairHears c f rest → c.engine.unpressed → c.seatOf f.source i →
      (∀ a, c.engine.active = some a → a.machine ≠ f.source ∨ a.number ≠ n) →
      (∀ p, c.engine.pendingReceive = some p → p.machine ≠ f.source ∨ p.number ≠ n) →
      f.body = .abort n reason ctl e →
      ((c.seats.get i).state = .waiting → c.engine.locks i = false →
        exec .abort s = .next (((s.takeHead rest).raise ⟨.aborted, some i, f.source, reason, 0⟩).withChair
          (c.freed i s.config.fleetAge s.time)))
      ∧ ((c.seats.get i).state = .asking ∨ (c.seats.get i).state = .seizing →
        exec .abort s = .next (s.takeHead rest)))

/-! ### The Fleet Line: R142 to R161 -/

/-- An offer while ONLINE: a DRIVE takes the place of the one waiting for its machine, at the head too, with its
collision count and slots, even in a full queue; a fourth SEGMENT or a ninth frame is refused, with LINE_DROP for
kinds other than DRIVE and SEGMENT; a HALT goes behind the HALTs that wait and ahead of every other frame that is
not on the line; any other frame joins the tail; a station that is not ONLINE refuses every frame (R146, R151,
R152, R153). -/
def Obligations.OffersToTheTransmitQueue : Prop :=
  (∀ (f : Frame) (s : State), s.station ≠ .online → s.offer f = (s, false))
  ∧ (∀ (f : Frame) (s : State) (front back : List QueuedFrame) (old : QueuedFrame), s.station = .online →
    isDrive f = true → isDrive old.frame = true → old.frame.target = f.target →
    (∀ e ∈ front, ¬ (isDrive e.frame = true ∧ e.frame.target = f.target)) →
    let placed := front ++ ⟨f, old.collisions, old.slots⟩ :: back
    (s.line.transmitter ≠ .sending → s.line.queue = front ++ old :: back →
      s.offer f = ({ s with line := { s.line with
        queue := placed, transmitter := transmitterFor placed } }, true))
    ∧ (∀ head, s.line.transmitter = .sending → s.line.queue = head :: (front ++ old :: back) →
      s.offer f = ({ s with line := { s.line with queue := head :: placed } }, true)))
  ∧ (∀ (f : Frame) (s : State), s.station = .online →
    (∀ e ∈ s.line.queue, ¬ (isDrive f = true ∧ isDrive e.frame = true ∧ e.frame.target = f.target)) →
    (8 ≤ s.line.queue.length → isDrive f = false → isSegment f = false →
      s.offer f = (s.raise ⟨.lineDrop, none, f.target, .queueFull, kindCode f.body⟩, false))
    ∧ (8 ≤ s.line.queue.length → isDrive f = true ∨ isSegment f = true → s.offer f = (s, false))
    ∧ (isSegment f = true → 3 ≤ segmentCount s.line.queue → s.offer f = (s, false))
    ∧ (s.line.queue.length < 8 → isHalt f = false → (isSegment f = true → segmentCount s.line.queue < 3) →
      let placed := s.line.queue ++ [⟨f, 0, 0⟩]
      s.offer f = ({ s with line := { s.line with
        queue := placed
        transmitter := if s.line.transmitter = .sending then .sending else transmitterFor placed } }, true))
    ∧ (∀ halts others, (∀ e ∈ halts, isHalt e.frame = true) →
      (∀ e, others[0]? = some e → isHalt e.frame = false) → s.line.queue.length < 8 → isHalt f = true →
      let placed := halts ++ ⟨f, 0, 0⟩ :: others
      (∀ head, s.line.transmitter = .sending → s.line.queue = head :: (halts ++ others) →
        s.offer f = ({ s with line := { s.line with queue := head :: placed } }, true))
      ∧ (s.line.transmitter ≠ .sending → s.line.queue = halts ++ others →
        s.offer f = ({ s with line := { s.line with
          queue := placed, transmitter := transmitterFor placed } }, true))))

/-- The transmitter's attempts. In DEFER the head starts once the line has been quiet for its class's time (8, 16 or
24 bit times), through an assembly in progress too: LTX then carries the bits of its bytes, from a low start bit on,
with LTE asserted, and outside an attempt nothing. A frame sent leaves the queue, and the next becomes head in
BACKOFF with slots to count, else DEFER; a mismatch raises the collision count, draws min(c, 5) bits of the stepped
generator as slots and puts the frame back at the head, behind every HALT that waits, or a newer DRIVE for its
machine in its place; the eighth drops the frame with LINE_DROP. At both a CHAIR's sender counts a SEGMENT out, and
in SEND_RUN queues on. High levels raise the quiet count, through the rest of a frame cut short too, whose assembly
they discard, and a discard leaves the count. Slots counted run down, and with the last the head enters DEFER (R41,
R145 to R150, R152, R153, R155, R156). The model's choices: the operands of FRAME_START and BACKOFF_END, the quiet
count 0 where a frame ends or mismatches, and a FRAME_START without effect where its levels would complete a frame
(log 4), a HALT behind other HALTs and a waiting HALT with slots (log 8), and LINE_DROP after the
report (log 28). -/
def Obligations.AttemptsOnTheLine : Prop :=
  ∀ (s : State) (e : QueuedFrame) (rest : List QueuedFrame), s.line.queue = e :: rest →
    let g := if s.line.generator.getLsbD 0 then (s.line.generator >>> 1) ^^^ 0xB400#16
      else s.line.generator >>> 1
    let draw := g.toNat % 2 ^ min (e.collisions + 1) 5
    let retried (q : List QueuedFrame) : State := { s with line := { s.line with
      queue := q, transmitter := transmitterFor q, generator := g, quiet := 0 } }
    (∀ bits,
      (s.line.transmitter = .sending → exec (.frameStart bits) s = .next s)
      ∧ (s.line.stayHigh bits = none → exec (.frameStart bits) s = .next s)
      ∧ (s.line.assembly = none → s.line.stayHigh bits = some { s.line with quiet := s.line.quiet + bits })
      ∧ (∀ l, s.line.stayHigh bits = some l → s.line.transmitter ≠ .sending →
        l = { s.line with assembly := l.assembly, quiet := s.line.quiet + bits }
        ∧ (11 ≤ bits → l.assembly = none)
        ∧ (s.line.transmitter = .defer → quietNeed e.frame ≤ l.quiet →
          ∃ t, exec (.frameStart bits) s = .next t
            ∧ t = { s with line := { s.line with
                transmitter := .sending, quiet := 0, assembly := (l.hear false).1.assembly } }
            ∧ (l.assembly = none → t.line.assembly = some ⟨[], [false]⟩)
            ∧ t.line.driven = frameLevels e.frame ∧ t.lte = true)
        ∧ (s.line.transmitter ≠ .defer ∨ l.quiet < quietNeed e.frame →
          exec (.frameStart bits) s = .next { s with line := l })))
    ∧ (s.line.transmitter ≠ .sending → s.line.driven = [] ∧ s.lte = false)
    ∧ (∀ t : State, s.line.transmitter = .sending → s.frameGone e rest t →
      exec .frameSent s = .next t
      ∧ (7 ≤ e.collisions →
        exec .mismatch s
          = .next (t.raise ⟨.lineDrop, none, e.frame.target, .collisions, kindCode e.frame.body⟩)))
    ∧ (s.line.transmitter = .sending → e.collisions < 7 →
      (∀ halts others, rest = halts ++ others → (∀ w ∈ halts, isHalt w.frame = true) →
        (∀ w, others[0]? = some w → isHalt w.frame = false) →
        (isDrive e.frame = true → ∀ w ∈ rest, ¬ (isDrive w.frame = true ∧ w.frame.target = e.frame.target)) →
        exec .mismatch s = .next (retried (halts ++ ⟨e.frame, e.collisions + 1, draw⟩ :: others)))
      ∧ (∀ front newer back halts others, rest = front ++ newer :: back → isDrive e.frame = true →
        isDrive newer.frame = true → newer.frame.target = e.frame.target →
        (∀ w ∈ front, ¬ (isDrive w.frame = true ∧ w.frame.target = e.frame.target)) →
        front ++ back = halts ++ others → (∀ w ∈ halts, isHalt w.frame = true) →
        (∀ w, others[0]? = some w → isHalt w.frame = false) →
        exec .mismatch s
          = .next (retried (halts ++ ⟨newer.frame, e.collisions + 1, draw⟩ :: others))))
    ∧ (∀ slots, s.line.transmitter = .backoff →
      let q := { e with slots := e.slots - slots } :: rest
      exec (.backoffEnd slots) s
        = .next { s with line := { s.line with queue := q, transmitter := transmitterFor q } })
    ∧ exec .receiveAssemblyDiscarded s
        = .next { s with line := { s.line with assembly := none } }

/-- Levels heard: they leave what they make of the assembly, and where they complete a frame it is judged. One that
fails its checks is gone without trace; one from this station is a clash in ONLINE, but for the echo, and in LISTEN,
whoever drove it, puts the station back in SETUP with START_FAILED, a machine's halt latch cleared and its gate
recomputed; in SETUP nothing is judged. In ONLINE one of a kind its role takes, addressed to this station or to all,
or overheard by the rules of R158, joins the receive FIFO, and the sixth frame there or a later one sets a
receiver's pressure flag, which pauses a running burst; a full FIFO loses it with the overrun flag; every other
frame is discarded (R47, R156 to R161, R204). The model's choices: the levels of a row and the quiet count 0 where a
frame ends (log 4), and the operand that says the frame is the echo (log 5). -/
def Obligations.CompleteFrameJudged : Prop :=
  ∀ (levels : List Bool) (s : State) (l : Line),
    (∀ driven, s.line.receive levels = (l, none) →
      exec (.completeFrame levels driven) s = .next { s with line := l })
    ∧ (∀ bytes, s.line.receive levels = (l, some bytes) →
      let heard : State := { s with line := l }
      l = { s.line with assembly := none, quiet := 0 }
      ∧ (∀ driven, judgeFrame bytes = none → exec (.completeFrame levels driven) s = .next heard)
      ∧ ∀ f, judgeFrame bytes = some f →
        let me := s.config.station
        let joined : State := { s with line := { l with fifo := s.line.fifo ++ [f] } }
        (s.station ≠ .listen → exec (.completeFrame levels true) s = .next heard)
        ∧ (s.station = .setup → exec (.completeFrame levels false) s = .next heard)
        ∧ (s.station = .listen → f.source ≠ me → ∀ driven, exec (.completeFrame levels driven) s = .next heard)
        ∧ (s.station = .listen → f.source = me →
          let failed : State := ({ s with station := .setup, listenTimer := none, line := l } : State).raise
            ⟨.startFailed, none, me, .none, kindCode f.body⟩
          (∀ c driven, s.blocks = .chair c → exec (.completeFrame levels driven) s = .next failed)
          ∧ (∀ m driven, s.blocks = .machine m →
            exec (.completeFrame levels driven) s = .next (failed.withMachine m.binding
              (({ m.gate with halted := false } : DriveGate).recompute s.config m.binding))))
        ∧ (s.station = .online → f.source = me →
          exec (.completeFrame levels false) s
            = .next (({ s with line := l, port := { s.port with clashSeen := true } } : State).raise
                ⟨.clash, none, me, .none, kindCode f.body⟩))
        ∧ (s.station = .online → f.source ≠ me →
          (¬ s.keepsFrame f → exec (.completeFrame levels false) s = .next heard)
          ∧ (s.keepsFrame f → 8 ≤ s.line.fifo.length →
            exec (.completeFrame levels false) s = .next { s with line := { l with overrun := true } })
          ∧ (s.keepsFrame f → s.line.fifo.length < 8 →
            ((∀ c a r, s.blocks = .chair c → c.engine.active = some a → a.side = .receiver r →
                r.pressure = true ∨ s.line.fifo.length < 5) →
              exec (.completeFrame levels false) s = .next joined)
            ∧ (∀ c a r, s.blocks = .chair c → c.engine.active = some a → a.side = .receiver r →
              r.pressure = false → 5 ≤ s.line.fifo.length →
              let engine (r' : Receiver) : ChairBlocks :=
                { c with engine := { c.engine with active := some { a with side := .receiver r' } } }
              (r.state = .run →
                exec (.completeFrame levels false) s
                  = .next ((joined.send ⟨me, a.peer, .hold a.number a.burst⟩).withChair
                      (engine { r with pressure := true, state := .paused, allowance := 3 })))
              ∧ (r.state ≠ .run →
                exec (.completeFrame levels false) s
                  = .next (joined.withChair (engine { r with pressure := true })))))))

/-- A frame whose fields lie in their ranges is read back, whole and unchanged, from the bytes it is sent as: its
envelope, its fields and its check; and its bytes from the levels it is sent as, heard on a line quiet for 8 bit
times with no assembly (R145, R156, R157, R162 to R175). That the quiet count is 0 where the frame ends is the
model's choice (log 4). -/
def Obligations.FrameReadsBackFromItsBytes : Prop :=
  (∀ f : Frame, f.sendable = true → judgeFrame (frameBytes f) = some f)
  ∧ (∀ (f : Frame) (l : Line), f.sendable = true → l.assembly = none → 8 ≤ l.quiet →
      l.receive (frameLevels f) = ({ l with assembly := none, quiet := 0 }, some (frameBytes f)))

/-! ### The station as a whole -/

/-- No step overfills a buffer: 32 notices, 8 frames in the transmit queue of which 3 SEGMENT, 8 frames in the
receive FIFO, 8 cache entries, 32 fleet records, one for each machine (R114, R126, R151, R160, R191). -/
def Obligations.StepKeepsBuffersBounded : Prop :=
  ∀ s t : State, BuffersBounded s → step s = .next t → BuffersBounded t

/-- Every step keeps the zone table and the context areas in their canonical form (log 21). -/
def Obligations.StepKeepsStoresCanonical : Prop :=
  ∀ s t : State, StoresCanonical s → step s = .next t → StoresCanonical t

/-- After every step a MACHINE's gate agrees with its inputs: the ceiling, the reverse ceiling, the rights,
the ramp value, the outputs, drive-enable and the strobe are those of the record as it stands; and out of
ONLINE the machine is UNBOUND (R4, R65 to R71, R75, R76, R83, R84). -/
def Obligations.StepKeepsTheGateSound : Prop :=
  ∀ s t : State, GateSound s → step s = .next t → GateSound t

/-- No step lets two seats name one machine, or a seat name the machine armed for seizure (R86, R92, R108,
R109, R188). -/
def Obligations.StepKeepsSeatsApart : Prop :=
  ∀ s t : State, SeatsApart s → step s = .next t → SeatsApart t

/-- The reset state meets the invariants of the steps. -/
def Obligations.ResetMeetsTheInvariants : Prop :=
  BuffersBounded State.reset ∧ StoresCanonical State.reset ∧ GateSound State.reset
    ∧ SeatsApart State.reset ∧ CacheSound State.reset.zones

/-- The configuration changes only at a hard reset and at a setup command taken in SETUP, and the zone table
only at a ZONE WRITE and a hard reset (R119, R120, R198, R206). -/
def Obligations.ConfigurationAndTableMoveOnlyBy : Prop :=
  ∀ (c : Instr) (s t : State), exec c s = .next t → c ≠ .hardReset →
    (t.config ≠ s.config → setsConfiguration c = true ∧ s.station = .setup)
    ∧ (t.zones.table ≠ s.zones.table → ∃ ps, c = .zoneWrite ps)

/-- The halt latch is set only by a HALT or LOCAL HALT, and cleared only by a RESUME, LOCAL RESUME, a hard
reset, a clash in LISTEN or a new role in SETUP: no change of binding state and no transfer moves it. A
machine's epoch moves only where it binds a chair, and then to the next (R7, R79, R80, R81, R204). -/
def Obligations.HaltLatchAndEpochMoveOnlyBy : Prop :=
  ∀ (c : Instr) (s t : State), exec c s = .next t →
    (s.halted = false → t.halted = true → setsLatch c = true ∧ s.station = .online)
    ∧ (s.halted = true → t.halted = false → clearsLatch c = true
        ∧ ((∃ levels driven, c = .completeFrame levels driven) → s.station = .listen)
        ∧ ((∃ ps, c = .setRole ps) → s.station = .setup))
    ∧ (∀ e e', s.epoch = some e → t.epoch = some e' → e' ≠ e →
        bindsAChair c = true ∧ e' = if e = 65535 then 1 else e + 1)
end

