-- ==== Sys2Proof/Laws/State.lean ====
section
/-!
SUPPORT. Laws/State.lean: what each plain update of the state leaves and changes, one lemma a field, so
that no later proof unfolds a record update; the seats read after they are written; the views of a role.
-/
namespace Sys2Proof.Machine

variable (s : State) (v : MachineView) (w : ChairView)

/-! ### Time -/

@[simp] theorem State.tick_config : s.tick.config = s.config := rfl
@[simp] theorem State.tick_station : s.tick.station = s.station := rfl
@[simp] theorem State.tick_listenTimer : s.tick.listenTimer = s.listenTimer := rfl
@[simp] theorem State.tick_time : s.tick.time = s.time + 1 := rfl
@[simp] theorem State.tick_zones : s.tick.zones = s.zones := rfl
@[simp] theorem State.tick_line : s.tick.line = s.line := rfl
@[simp] theorem State.tick_port : s.tick.port = s.port := rfl
@[simp] theorem State.tick_notices : s.tick.notices = s.notices := rfl
@[simp] theorem State.tick_blocks : s.tick.blocks = s.blocks := rfl
@[simp] theorem State.tick_pending : s.tick.pending = s.pending := rfl

variable (d : Nat)

@[simp] theorem State.reach_config : (s.reach d).config = s.config := rfl
@[simp] theorem State.reach_station : (s.reach d).station = s.station := rfl
@[simp] theorem State.reach_listenTimer : (s.reach d).listenTimer = s.listenTimer := rfl
@[simp] theorem State.reach_time : (s.reach d).time = max s.time d := rfl
@[simp] theorem State.reach_zones : (s.reach d).zones = s.zones := rfl
@[simp] theorem State.reach_line : (s.reach d).line = s.line := rfl
@[simp] theorem State.reach_port : (s.reach d).port = s.port := rfl
@[simp] theorem State.reach_notices : (s.reach d).notices = s.notices := rfl
@[simp] theorem State.reach_blocks : (s.reach d).blocks = s.blocks := rfl
@[simp] theorem State.reach_pending : (s.reach d).pending = s.pending := rfl

/-! ### Responses and commands taken -/

variable (code : ResponseCode) (data : List Byte)

@[simp] theorem State.respond_config : (s.respond code data).config = s.config := rfl
@[simp] theorem State.respond_station : (s.respond code data).station = s.station := rfl
@[simp] theorem State.respond_listenTimer : (s.respond code data).listenTimer = s.listenTimer := rfl
@[simp] theorem State.respond_time : (s.respond code data).time = s.time := rfl
@[simp] theorem State.respond_zones : (s.respond code data).zones = s.zones := rfl
@[simp] theorem State.respond_line : (s.respond code data).line = s.line := rfl
@[simp] theorem State.respond_notices : (s.respond code data).notices = s.notices := rfl
@[simp] theorem State.respond_blocks : (s.respond code data).blocks = s.blocks := rfl
@[simp] theorem State.respond_pending : (s.respond code data).pending = s.pending := rfl
@[simp] theorem State.respond_code : (s.respond code data).port.response.code = code := rfl

@[simp] theorem State.commandTaken_config : s.commandTaken.config = s.config := rfl
@[simp] theorem State.commandTaken_station : s.commandTaken.station = s.station := rfl
@[simp] theorem State.commandTaken_listenTimer : s.commandTaken.listenTimer = s.listenTimer := rfl
@[simp] theorem State.commandTaken_time : s.commandTaken.time = s.time := rfl
@[simp] theorem State.commandTaken_zones : s.commandTaken.zones = s.zones := rfl
@[simp] theorem State.commandTaken_line : s.commandTaken.line = s.line := rfl
@[simp] theorem State.commandTaken_blocks : s.commandTaken.blocks = disarm s.blocks := rfl
@[simp] theorem State.commandTaken_pending : s.commandTaken.pending = s.pending := rfl
@[simp] theorem State.commandTaken_queue : s.commandTaken.notices.queue = s.notices.queue := rfl
@[simp] theorem State.commandTaken_overrun : s.commandTaken.notices.overrun = s.notices.overrun := rfl
@[simp] theorem State.commandTaken_clearStep : s.commandTaken.notices.clearStep = false := rfl
@[simp] theorem State.commandTaken_transaction : s.commandTaken.port.transaction = none := rfl

@[simp] theorem disarm_unset : disarm .unset = .unset := rfl
@[simp] theorem disarm_machine (m : MachineBlocks) : disarm (.machine m) = .machine m := rfl
@[simp] theorem disarm_chair (c : ChairBlocks) :
    disarm (.chair c) = .chair { c with armed := none } := rfl

/-! ### The receive FIFO's head -/

variable (rest : List Frame)

@[simp] theorem State.takeHead_config : (s.takeHead rest).config = s.config := rfl
@[simp] theorem State.takeHead_station : (s.takeHead rest).station = s.station := rfl
@[simp] theorem State.takeHead_listenTimer : (s.takeHead rest).listenTimer = s.listenTimer := rfl
@[simp] theorem State.takeHead_time : (s.takeHead rest).time = s.time := rfl
@[simp] theorem State.takeHead_zones : (s.takeHead rest).zones = s.zones := rfl
@[simp] theorem State.takeHead_fifo : (s.takeHead rest).line.fifo = rest := rfl
@[simp] theorem State.takeHead_queue : (s.takeHead rest).line.queue = s.line.queue := rfl
@[simp] theorem State.takeHead_transmitter :
    (s.takeHead rest).line.transmitter = s.line.transmitter := rfl
@[simp] theorem State.takeHead_port : (s.takeHead rest).port = s.port := rfl
@[simp] theorem State.takeHead_notices : (s.takeHead rest).notices = s.notices := rfl
@[simp] theorem State.takeHead_blocks : (s.takeHead rest).blocks = s.blocks := rfl
@[simp] theorem State.takeHead_pending : (s.takeHead rest).pending = s.pending := rfl

/-! ### Status flags -/

@[simp] theorem State.clearStatusFlags_config : s.clearStatusFlags.config = s.config := rfl
@[simp] theorem State.clearStatusFlags_station : s.clearStatusFlags.station = s.station := rfl
@[simp] theorem State.clearStatusFlags_zones : s.clearStatusFlags.zones = s.zones := rfl
@[simp] theorem State.clearStatusFlags_notices : s.clearStatusFlags.notices = s.notices := rfl
@[simp] theorem State.clearStatusFlags_blocks : s.clearStatusFlags.blocks = s.blocks := rfl
@[simp] theorem State.clearStatusFlags_pending : s.clearStatusFlags.pending = s.pending := rfl
@[simp] theorem State.clearStatusFlags_queue : s.clearStatusFlags.line.queue = s.line.queue := rfl
@[simp] theorem State.clearStatusFlags_fifo : s.clearStatusFlags.line.fifo = s.line.fifo := rfl

/-! ### Views -/

variable (f : State → State)

@[simp] theorem MachineView.lift_toState : (v.lift f).toState = f v.toState := rfl
@[simp] theorem MachineView.lift_binding : (v.lift f).binding = v.binding := rfl
@[simp] theorem MachineView.lift_gate : (v.lift f).gate = v.gate := rfl
@[simp] theorem ChairView.lift_toState : (w.lift f).toState = f w.toState := rfl
@[simp] theorem ChairView.lift_seats : (w.lift f).seats = w.seats := rfl
@[simp] theorem ChairView.lift_armed : (w.lift f).armed = w.armed := rfl
@[simp] theorem ChairView.lift_driveTimer : (w.lift f).driveTimer = w.driveTimer := rfl
@[simp] theorem ChairView.lift_engine : (w.lift f).engine = w.engine := rfl
@[simp] theorem ChairView.lift_fleet : (w.lift f).fleet = w.fleet := rfl

@[simp] theorem MachineView.close_blocks : v.close.blocks = .machine ⟨v.binding, v.gate⟩ := rfl
@[simp] theorem MachineView.close_config : v.close.config = v.config := rfl
@[simp] theorem MachineView.close_station : v.close.station = v.station := rfl
@[simp] theorem MachineView.close_listenTimer : v.close.listenTimer = v.listenTimer := rfl
@[simp] theorem MachineView.close_time : v.close.time = v.time := rfl
@[simp] theorem MachineView.close_zones : v.close.zones = v.zones := rfl
@[simp] theorem MachineView.close_line : v.close.line = v.line := rfl
@[simp] theorem MachineView.close_port : v.close.port = v.port := rfl
@[simp] theorem MachineView.close_notices : v.close.notices = v.notices := rfl
@[simp] theorem MachineView.close_pending : v.close.pending = v.pending := rfl

@[simp] theorem ChairView.close_blocks :
    w.close.blocks = .chair ⟨w.seats, w.armed, w.driveTimer, w.engine, w.fleet⟩ := rfl
@[simp] theorem ChairView.close_config : w.close.config = w.config := rfl
@[simp] theorem ChairView.close_station : w.close.station = w.station := rfl
@[simp] theorem ChairView.close_listenTimer : w.close.listenTimer = w.listenTimer := rfl
@[simp] theorem ChairView.close_time : w.close.time = w.time := rfl
@[simp] theorem ChairView.close_zones : w.close.zones = w.zones := rfl
@[simp] theorem ChairView.close_line : w.close.line = w.line := rfl
@[simp] theorem ChairView.close_port : w.close.port = w.port := rfl
@[simp] theorem ChairView.close_notices : w.close.notices = w.notices := rfl
@[simp] theorem ChairView.close_pending : w.close.pending = w.pending := rfl

/-! ### Seats -/

@[simp] theorem Seats.get_set (t : Seats) (i : Fin 4) (x : Seat) : (t.set i x).get i = x := by
  fin_cases i <;> rfl

@[simp] theorem Seats.get_set_ne (t : Seats) {i j : Fin 4} (x : Seat) (h : j ≠ i) :
    (t.set i x).get j = t.get j := by
  fin_cases i <;> fin_cases j <;> first | rfl | exact absurd rfl h

theorem Seats.get_set_cases (t : Seats) (i j : Fin 4) (x : Seat) :
    (t.set i x).get j = if j = i then x else t.get j := by
  split
  · next h => rw [h, Seats.get_set]
  · next h => rw [Seats.get_set_ne _ _ h]

@[simp] theorem Seats.set_get (t : Seats) (i : Fin 4) : t.set i (t.get i) = t := by
  fin_cases i <;> rfl

end Sys2Proof.Machine
end

