-- ==== Sys2Proof/Laws/Fixed.lean ====
section
/-!
SUPPORT. Laws/Fixed.lean: what no rule of a block touches: the configuration, the station state, the
listen timer, the Time Base, the port and the queue of commands, one lemma a rule.
-/
set_option linter.unusedTactic false
set_option linter.unreachableTactic false
set_option linter.unusedSectionVars false

namespace Sys2Proof.Machine

/-- The parts of a station that a block's own rule leaves alone. -/
def State.fixed (s : State) : Configuration × StationState × Option Nat × Nat × Port × List Instr :=
  (s.config, s.station, s.listenTimer, s.time, s.port, s.pending)

section
variable {s t : State} (h : s.fixed = t.fixed)
include h

theorem State.fixed_config : s.config = t.config := congrArg (·.1) h
theorem State.fixed_station : s.station = t.station := congrArg (·.2.1) h
theorem State.fixed_listenTimer : s.listenTimer = t.listenTimer := congrArg (·.2.2.1) h
theorem State.fixed_time : s.time = t.time := congrArg (·.2.2.2.1) h
theorem State.fixed_port : s.port = t.port := congrArg (·.2.2.2.2.1) h
theorem State.fixed_pending : s.pending = t.pending := congrArg (·.2.2.2.2.2) h

end

/-! ### Shared operations -/

@[simp] theorem State.raise_fixed (n : Notice) (s : State) : (s.raise n).fixed = s.fixed := by
  unfold State.raise; split <;> rfl

@[simp] theorem State.raise_line (n : Notice) (s : State) : (s.raise n).line = s.line := by
  unfold State.raise; split <;> rfl

@[simp] theorem State.raise_zones (n : Notice) (s : State) : (s.raise n).zones = s.zones := by
  unfold State.raise; split <;> rfl

@[simp] theorem State.raise_blocks (n : Notice) (s : State) : (s.raise n).blocks = s.blocks := by
  unfold State.raise; split <;> rfl

@[simp] theorem State.offer_fixed (f : Frame) (s : State) : (s.offer f).1.fixed = s.fixed := by
  unfold State.offer
  repeat' split
  all_goals first | rfl | simp

@[simp] theorem State.offer_zones (f : Frame) (s : State) : (s.offer f).1.zones = s.zones := by
  unfold State.offer
  repeat' split
  all_goals first | rfl | simp

@[simp] theorem State.offer_blocks (f : Frame) (s : State) : (s.offer f).1.blocks = s.blocks := by
  unfold State.offer
  repeat' split
  all_goals first | rfl | simp

@[simp] theorem State.offer_fifo (f : Frame) (s : State) : (s.offer f).1.line.fifo = s.line.fifo := by
  unfold State.offer
  repeat' split
  all_goals first | rfl | simp

@[simp] theorem State.send_fixed (f : Frame) (s : State) : (s.send f).fixed = s.fixed :=
  State.offer_fixed f s

@[simp] theorem State.send_zones (f : Frame) (s : State) : (s.send f).zones = s.zones :=
  State.offer_zones f s

@[simp] theorem State.send_blocks (f : Frame) (s : State) : (s.send f).blocks = s.blocks :=
  State.offer_blocks f s

@[simp] theorem State.send_fifo (f : Frame) (s : State) : (s.send f).line.fifo = s.line.fifo :=
  State.offer_fifo f s

@[simp] theorem State.raise_config (n : Notice) (s : State) : (s.raise n).config = s.config :=
  State.fixed_config (State.raise_fixed n s)
@[simp] theorem State.offer_config (g : Frame) (s : State) : (s.offer g).1.config = s.config :=
  State.fixed_config (State.offer_fixed g s)
@[simp] theorem State.send_config (g : Frame) (s : State) : (s.send g).config = s.config :=
  State.fixed_config (State.send_fixed g s)
@[simp] theorem State.raise_station (n : Notice) (s : State) : (s.raise n).station = s.station :=
  State.fixed_station (State.raise_fixed n s)
@[simp] theorem State.offer_station (g : Frame) (s : State) : (s.offer g).1.station = s.station :=
  State.fixed_station (State.offer_fixed g s)
@[simp] theorem State.send_station (g : Frame) (s : State) : (s.send g).station = s.station :=
  State.fixed_station (State.send_fixed g s)
@[simp] theorem State.raise_listenTimer (n : Notice) (s : State) : (s.raise n).listenTimer = s.listenTimer :=
  State.fixed_listenTimer (State.raise_fixed n s)
@[simp] theorem State.offer_listenTimer (g : Frame) (s : State) : (s.offer g).1.listenTimer = s.listenTimer :=
  State.fixed_listenTimer (State.offer_fixed g s)
@[simp] theorem State.send_listenTimer (g : Frame) (s : State) : (s.send g).listenTimer = s.listenTimer :=
  State.fixed_listenTimer (State.send_fixed g s)
@[simp] theorem State.raise_time (n : Notice) (s : State) : (s.raise n).time = s.time :=
  State.fixed_time (State.raise_fixed n s)
@[simp] theorem State.offer_time (g : Frame) (s : State) : (s.offer g).1.time = s.time :=
  State.fixed_time (State.offer_fixed g s)
@[simp] theorem State.send_time (g : Frame) (s : State) : (s.send g).time = s.time :=
  State.fixed_time (State.send_fixed g s)
@[simp] theorem State.raise_port (n : Notice) (s : State) : (s.raise n).port = s.port :=
  State.fixed_port (State.raise_fixed n s)
@[simp] theorem State.offer_port (g : Frame) (s : State) : (s.offer g).1.port = s.port :=
  State.fixed_port (State.offer_fixed g s)
@[simp] theorem State.send_port (g : Frame) (s : State) : (s.send g).port = s.port :=
  State.fixed_port (State.send_fixed g s)
@[simp] theorem State.raise_pending (n : Notice) (s : State) : (s.raise n).pending = s.pending :=
  State.fixed_pending (State.raise_fixed n s)
@[simp] theorem State.offer_pending (g : Frame) (s : State) : (s.offer g).1.pending = s.pending :=
  State.fixed_pending (State.offer_fixed g s)
@[simp] theorem State.send_pending (g : Frame) (s : State) : (s.send g).pending = s.pending :=
  State.fixed_pending (State.send_fixed g s)

/-! ### Rules of a MACHINE -/

section
variable (v : MachineView)

@[simp] theorem MachineView.mk_fixed (s : State) (m : MachineBlocks) :
    (MachineView.mk s m).fixed = s.fixed := rfl

@[simp] theorem MachineView.sendTo_fixed (n : Nat) (b : Body) : (v.sendTo n b).fixed = v.fixed := by
  unfold MachineView.sendTo
  try dsimp only
  repeat' split
  all_goals first | rfl | (simp; done) | simp [State.fixed]

@[simp] theorem MachineView.sendTo_config (n : Nat) (b : Body) : (v.sendTo n b).config = v.config :=
  State.fixed_config (MachineView.sendTo_fixed v n b)
@[simp] theorem MachineView.sendTo_station (n : Nat) (b : Body) : (v.sendTo n b).station = v.station :=
  State.fixed_station (MachineView.sendTo_fixed v n b)
@[simp] theorem MachineView.sendTo_listenTimer (n : Nat) (b : Body) : (v.sendTo n b).listenTimer = v.listenTimer :=
  State.fixed_listenTimer (MachineView.sendTo_fixed v n b)
@[simp] theorem MachineView.sendTo_time (n : Nat) (b : Body) : (v.sendTo n b).time = v.time :=
  State.fixed_time (MachineView.sendTo_fixed v n b)
@[simp] theorem MachineView.sendTo_port (n : Nat) (b : Body) : (v.sendTo n b).port = v.port :=
  State.fixed_port (MachineView.sendTo_fixed v n b)
@[simp] theorem MachineView.sendTo_pending (n : Nat) (b : Body) : (v.sendTo n b).pending = v.pending :=
  State.fixed_pending (MachineView.sendTo_fixed v n b)
@[simp] theorem MachineView.sendAll_fixed (b : Body) : (v.sendAll b).fixed = v.fixed := by
  unfold MachineView.sendAll
  try dsimp only
  repeat' split
  all_goals first | rfl | (simp; done) | simp [State.fixed]

@[simp] theorem MachineView.sendAll_config (b : Body) : (v.sendAll b).config = v.config :=
  State.fixed_config (MachineView.sendAll_fixed v b)
@[simp] theorem MachineView.sendAll_station (b : Body) : (v.sendAll b).station = v.station :=
  State.fixed_station (MachineView.sendAll_fixed v b)
@[simp] theorem MachineView.sendAll_listenTimer (b : Body) : (v.sendAll b).listenTimer = v.listenTimer :=
  State.fixed_listenTimer (MachineView.sendAll_fixed v b)
@[simp] theorem MachineView.sendAll_time (b : Body) : (v.sendAll b).time = v.time :=
  State.fixed_time (MachineView.sendAll_fixed v b)
@[simp] theorem MachineView.sendAll_port (b : Body) : (v.sendAll b).port = v.port :=
  State.fixed_port (MachineView.sendAll_fixed v b)
@[simp] theorem MachineView.sendAll_pending (b : Body) : (v.sendAll b).pending = v.pending :=
  State.fixed_pending (MachineView.sendAll_fixed v b)
@[simp] theorem MachineView.beacon_fixed : (v.beacon).fixed = v.fixed := by
  unfold MachineView.beacon
  try dsimp only
  repeat' split
  all_goals first | rfl | (simp; done) | simp [State.fixed]

@[simp] theorem MachineView.beacon_config : (v.beacon).config = v.config :=
  State.fixed_config (MachineView.beacon_fixed v)
@[simp] theorem MachineView.beacon_station : (v.beacon).station = v.station :=
  State.fixed_station (MachineView.beacon_fixed v)
@[simp] theorem MachineView.beacon_listenTimer : (v.beacon).listenTimer = v.listenTimer :=
  State.fixed_listenTimer (MachineView.beacon_fixed v)
@[simp] theorem MachineView.beacon_time : (v.beacon).time = v.time :=
  State.fixed_time (MachineView.beacon_fixed v)
@[simp] theorem MachineView.beacon_port : (v.beacon).port = v.port :=
  State.fixed_port (MachineView.beacon_fixed v)
@[simp] theorem MachineView.beacon_pending : (v.beacon).pending = v.pending :=
  State.fixed_pending (MachineView.beacon_fixed v)
@[simp] theorem MachineView.bindingNotice_fixed : (v.bindingNotice).fixed = v.fixed := by
  unfold MachineView.bindingNotice
  try dsimp only
  repeat' split
  all_goals first | rfl | (simp; done) | simp [State.fixed]

@[simp] theorem MachineView.bindingNotice_config : (v.bindingNotice).config = v.config :=
  State.fixed_config (MachineView.bindingNotice_fixed v)
@[simp] theorem MachineView.bindingNotice_station : (v.bindingNotice).station = v.station :=
  State.fixed_station (MachineView.bindingNotice_fixed v)
@[simp] theorem MachineView.bindingNotice_listenTimer : (v.bindingNotice).listenTimer = v.listenTimer :=
  State.fixed_listenTimer (MachineView.bindingNotice_fixed v)
@[simp] theorem MachineView.bindingNotice_time : (v.bindingNotice).time = v.time :=
  State.fixed_time (MachineView.bindingNotice_fixed v)
@[simp] theorem MachineView.bindingNotice_port : (v.bindingNotice).port = v.port :=
  State.fixed_port (MachineView.bindingNotice_fixed v)
@[simp] theorem MachineView.bindingNotice_pending : (v.bindingNotice).pending = v.pending :=
  State.fixed_pending (MachineView.bindingNotice_fixed v)
@[simp] theorem MachineView.refuse_fixed (n : Nat) (r : Reason) : (v.refuse n r).fixed = v.fixed := by
  unfold MachineView.refuse
  try dsimp only
  repeat' split
  all_goals first | rfl | (simp; done) | simp [State.fixed]

@[simp] theorem MachineView.refuse_config (n : Nat) (r : Reason) : (v.refuse n r).config = v.config :=
  State.fixed_config (MachineView.refuse_fixed v n r)
@[simp] theorem MachineView.refuse_station (n : Nat) (r : Reason) : (v.refuse n r).station = v.station :=
  State.fixed_station (MachineView.refuse_fixed v n r)
@[simp] theorem MachineView.refuse_listenTimer (n : Nat) (r : Reason) : (v.refuse n r).listenTimer = v.listenTimer :=
  State.fixed_listenTimer (MachineView.refuse_fixed v n r)
@[simp] theorem MachineView.refuse_time (n : Nat) (r : Reason) : (v.refuse n r).time = v.time :=
  State.fixed_time (MachineView.refuse_fixed v n r)
@[simp] theorem MachineView.refuse_port (n : Nat) (r : Reason) : (v.refuse n r).port = v.port :=
  State.fixed_port (MachineView.refuse_fixed v n r)
@[simp] theorem MachineView.refuse_pending (n : Nat) (r : Reason) : (v.refuse n r).pending = v.pending :=
  State.fixed_pending (MachineView.refuse_fixed v n r)
@[simp] theorem MachineView.recompute_fixed : (v.recompute).fixed = v.fixed := by
  unfold MachineView.recompute
  try dsimp only
  repeat' split
  all_goals first | rfl | (simp; done) | simp [State.fixed]

@[simp] theorem MachineView.recompute_config : (v.recompute).config = v.config :=
  State.fixed_config (MachineView.recompute_fixed v)
@[simp] theorem MachineView.recompute_station : (v.recompute).station = v.station :=
  State.fixed_station (MachineView.recompute_fixed v)
@[simp] theorem MachineView.recompute_listenTimer : (v.recompute).listenTimer = v.listenTimer :=
  State.fixed_listenTimer (MachineView.recompute_fixed v)
@[simp] theorem MachineView.recompute_time : (v.recompute).time = v.time :=
  State.fixed_time (MachineView.recompute_fixed v)
@[simp] theorem MachineView.recompute_port : (v.recompute).port = v.port :=
  State.fixed_port (MachineView.recompute_fixed v)
@[simp] theorem MachineView.recompute_pending : (v.recompute).pending = v.pending :=
  State.fixed_pending (MachineView.recompute_fixed v)
@[simp] theorem MachineView.setLatch_fixed (n : Nat) : (v.setLatch n).fixed = v.fixed := by
  unfold MachineView.setLatch
  try dsimp only
  repeat' split
  all_goals first | rfl | (simp; done) | simp [State.fixed]

@[simp] theorem MachineView.setLatch_config (n : Nat) : (v.setLatch n).config = v.config :=
  State.fixed_config (MachineView.setLatch_fixed v n)
@[simp] theorem MachineView.setLatch_station (n : Nat) : (v.setLatch n).station = v.station :=
  State.fixed_station (MachineView.setLatch_fixed v n)
@[simp] theorem MachineView.setLatch_listenTimer (n : Nat) : (v.setLatch n).listenTimer = v.listenTimer :=
  State.fixed_listenTimer (MachineView.setLatch_fixed v n)
@[simp] theorem MachineView.setLatch_time (n : Nat) : (v.setLatch n).time = v.time :=
  State.fixed_time (MachineView.setLatch_fixed v n)
@[simp] theorem MachineView.setLatch_port (n : Nat) : (v.setLatch n).port = v.port :=
  State.fixed_port (MachineView.setLatch_fixed v n)
@[simp] theorem MachineView.setLatch_pending (n : Nat) : (v.setLatch n).pending = v.pending :=
  State.fixed_pending (MachineView.setLatch_fixed v n)
@[simp] theorem MachineView.clearLatch_fixed (n : Nat) : (v.clearLatch n).fixed = v.fixed := by
  unfold MachineView.clearLatch
  try dsimp only
  repeat' split
  all_goals first | rfl | (simp; done) | simp [State.fixed]

@[simp] theorem MachineView.clearLatch_config (n : Nat) : (v.clearLatch n).config = v.config :=
  State.fixed_config (MachineView.clearLatch_fixed v n)
@[simp] theorem MachineView.clearLatch_station (n : Nat) : (v.clearLatch n).station = v.station :=
  State.fixed_station (MachineView.clearLatch_fixed v n)
@[simp] theorem MachineView.clearLatch_listenTimer (n : Nat) : (v.clearLatch n).listenTimer = v.listenTimer :=
  State.fixed_listenTimer (MachineView.clearLatch_fixed v n)
@[simp] theorem MachineView.clearLatch_time (n : Nat) : (v.clearLatch n).time = v.time :=
  State.fixed_time (MachineView.clearLatch_fixed v n)
@[simp] theorem MachineView.clearLatch_port (n : Nat) : (v.clearLatch n).port = v.port :=
  State.fixed_port (MachineView.clearLatch_fixed v n)
@[simp] theorem MachineView.clearLatch_pending (n : Nat) : (v.clearLatch n).pending = v.pending :=
  State.fixed_pending (MachineView.clearLatch_fixed v n)
@[simp] theorem MachineView.takeStop_fixed (b : Bool) : (v.takeStop b).fixed = v.fixed := by
  unfold MachineView.takeStop
  try dsimp only
  repeat' split
  all_goals first | rfl | (simp; done) | simp [State.fixed]

@[simp] theorem MachineView.takeStop_config (b : Bool) : (v.takeStop b).config = v.config :=
  State.fixed_config (MachineView.takeStop_fixed v b)
@[simp] theorem MachineView.takeStop_station (b : Bool) : (v.takeStop b).station = v.station :=
  State.fixed_station (MachineView.takeStop_fixed v b)
@[simp] theorem MachineView.takeStop_listenTimer (b : Bool) : (v.takeStop b).listenTimer = v.listenTimer :=
  State.fixed_listenTimer (MachineView.takeStop_fixed v b)
@[simp] theorem MachineView.takeStop_time (b : Bool) : (v.takeStop b).time = v.time :=
  State.fixed_time (MachineView.takeStop_fixed v b)
@[simp] theorem MachineView.takeStop_port (b : Bool) : (v.takeStop b).port = v.port :=
  State.fixed_port (MachineView.takeStop_fixed v b)
@[simp] theorem MachineView.takeStop_pending (b : Bool) : (v.takeStop b).pending = v.pending :=
  State.fixed_pending (MachineView.takeStop_fixed v b)
@[simp] theorem MachineView.acceptDemand_fixed (n : Nat) (d : Setpoints) : (v.acceptDemand n d).fixed = v.fixed := by
  unfold MachineView.acceptDemand
  try dsimp only
  repeat' split
  all_goals first | rfl | (simp; done) | simp [State.fixed]

@[simp] theorem MachineView.acceptDemand_config (n : Nat) (d : Setpoints) : (v.acceptDemand n d).config = v.config :=
  State.fixed_config (MachineView.acceptDemand_fixed v n d)
@[simp] theorem MachineView.acceptDemand_station (n : Nat) (d : Setpoints) : (v.acceptDemand n d).station = v.station :=
  State.fixed_station (MachineView.acceptDemand_fixed v n d)
@[simp] theorem MachineView.acceptDemand_listenTimer (n : Nat) (d : Setpoints) : (v.acceptDemand n d).listenTimer = v.listenTimer :=
  State.fixed_listenTimer (MachineView.acceptDemand_fixed v n d)
@[simp] theorem MachineView.acceptDemand_time (n : Nat) (d : Setpoints) : (v.acceptDemand n d).time = v.time :=
  State.fixed_time (MachineView.acceptDemand_fixed v n d)
@[simp] theorem MachineView.acceptDemand_port (n : Nat) (d : Setpoints) : (v.acceptDemand n d).port = v.port :=
  State.fixed_port (MachineView.acceptDemand_fixed v n d)
@[simp] theorem MachineView.acceptDemand_pending (n : Nat) (d : Setpoints) : (v.acceptDemand n d).pending = v.pending :=
  State.fixed_pending (MachineView.acceptDemand_fixed v n d)
@[simp] theorem MachineView.lookupZone_fixed (b : Bool) : (v.lookupZone b).fixed = v.fixed := by
  unfold MachineView.lookupZone
  try dsimp only
  repeat' split
  all_goals first | rfl | (simp; done) | simp [State.fixed]

@[simp] theorem MachineView.lookupZone_config (b : Bool) : (v.lookupZone b).config = v.config :=
  State.fixed_config (MachineView.lookupZone_fixed v b)
@[simp] theorem MachineView.lookupZone_station (b : Bool) : (v.lookupZone b).station = v.station :=
  State.fixed_station (MachineView.lookupZone_fixed v b)
@[simp] theorem MachineView.lookupZone_listenTimer (b : Bool) : (v.lookupZone b).listenTimer = v.listenTimer :=
  State.fixed_listenTimer (MachineView.lookupZone_fixed v b)
@[simp] theorem MachineView.lookupZone_time (b : Bool) : (v.lookupZone b).time = v.time :=
  State.fixed_time (MachineView.lookupZone_fixed v b)
@[simp] theorem MachineView.lookupZone_port (b : Bool) : (v.lookupZone b).port = v.port :=
  State.fixed_port (MachineView.lookupZone_fixed v b)
@[simp] theorem MachineView.lookupZone_pending (b : Bool) : (v.lookupZone b).pending = v.pending :=
  State.fixed_pending (MachineView.lookupZone_fixed v b)
@[simp] theorem MachineView.bindChair_fixed (n : Nat) (t : Terms) (k : Nat) : (v.bindChair n t k).fixed = v.fixed := by
  unfold MachineView.bindChair
  try dsimp only
  repeat' split
  all_goals first | rfl | (simp; done) | simp [State.fixed]

@[simp] theorem MachineView.bindChair_config (n : Nat) (t : Terms) (k : Nat) : (v.bindChair n t k).config = v.config :=
  State.fixed_config (MachineView.bindChair_fixed v n t k)
@[simp] theorem MachineView.bindChair_station (n : Nat) (t : Terms) (k : Nat) : (v.bindChair n t k).station = v.station :=
  State.fixed_station (MachineView.bindChair_fixed v n t k)
@[simp] theorem MachineView.bindChair_listenTimer (n : Nat) (t : Terms) (k : Nat) : (v.bindChair n t k).listenTimer = v.listenTimer :=
  State.fixed_listenTimer (MachineView.bindChair_fixed v n t k)
@[simp] theorem MachineView.bindChair_time (n : Nat) (t : Terms) (k : Nat) : (v.bindChair n t k).time = v.time :=
  State.fixed_time (MachineView.bindChair_fixed v n t k)
@[simp] theorem MachineView.bindChair_port (n : Nat) (t : Terms) (k : Nat) : (v.bindChair n t k).port = v.port :=
  State.fixed_port (MachineView.bindChair_fixed v n t k)
@[simp] theorem MachineView.bindChair_pending (n : Nat) (t : Terms) (k : Nat) : (v.bindChair n t k).pending = v.pending :=
  State.fixed_pending (MachineView.bindChair_fixed v n t k)
@[simp] theorem MachineView.grantTo_fixed (n : Nat) : (v.grantTo n).fixed = v.fixed := by
  unfold MachineView.grantTo
  try dsimp only
  repeat' split
  all_goals first | rfl | (simp; done) | simp [State.fixed]

@[simp] theorem MachineView.grantTo_config (n : Nat) : (v.grantTo n).config = v.config :=
  State.fixed_config (MachineView.grantTo_fixed v n)
@[simp] theorem MachineView.grantTo_station (n : Nat) : (v.grantTo n).station = v.station :=
  State.fixed_station (MachineView.grantTo_fixed v n)
@[simp] theorem MachineView.grantTo_listenTimer (n : Nat) : (v.grantTo n).listenTimer = v.listenTimer :=
  State.fixed_listenTimer (MachineView.grantTo_fixed v n)
@[simp] theorem MachineView.grantTo_time (n : Nat) : (v.grantTo n).time = v.time :=
  State.fixed_time (MachineView.grantTo_fixed v n)
@[simp] theorem MachineView.grantTo_port (n : Nat) : (v.grantTo n).port = v.port :=
  State.fixed_port (MachineView.grantTo_fixed v n)
@[simp] theorem MachineView.grantTo_pending (n : Nat) : (v.grantTo n).pending = v.pending :=
  State.fixed_pending (MachineView.grantTo_fixed v n)
@[simp] theorem MachineView.bindAndGrant_fixed (n : Nat) (t : Terms) : (v.bindAndGrant n t).fixed = v.fixed := by
  unfold MachineView.bindAndGrant
  try dsimp only
  repeat' split
  all_goals first | rfl | (simp; done) | simp [State.fixed]

@[simp] theorem MachineView.bindAndGrant_config (n : Nat) (t : Terms) : (v.bindAndGrant n t).config = v.config :=
  State.fixed_config (MachineView.bindAndGrant_fixed v n t)
@[simp] theorem MachineView.bindAndGrant_station (n : Nat) (t : Terms) : (v.bindAndGrant n t).station = v.station :=
  State.fixed_station (MachineView.bindAndGrant_fixed v n t)
@[simp] theorem MachineView.bindAndGrant_listenTimer (n : Nat) (t : Terms) : (v.bindAndGrant n t).listenTimer = v.listenTimer :=
  State.fixed_listenTimer (MachineView.bindAndGrant_fixed v n t)
@[simp] theorem MachineView.bindAndGrant_time (n : Nat) (t : Terms) : (v.bindAndGrant n t).time = v.time :=
  State.fixed_time (MachineView.bindAndGrant_fixed v n t)
@[simp] theorem MachineView.bindAndGrant_port (n : Nat) (t : Terms) : (v.bindAndGrant n t).port = v.port :=
  State.fixed_port (MachineView.bindAndGrant_fixed v n t)
@[simp] theorem MachineView.bindAndGrant_pending (n : Nat) (t : Terms) : (v.bindAndGrant n t).pending = v.pending :=
  State.fixed_pending (MachineView.bindAndGrant_fixed v n t)
@[simp] theorem MachineView.admitOrRefuse_fixed (n : Nat) (t : Terms) : (v.admitOrRefuse n t).fixed = v.fixed := by
  unfold MachineView.admitOrRefuse
  try dsimp only
  repeat' split
  all_goals first | rfl | (simp; done) | simp [State.fixed]

@[simp] theorem MachineView.admitOrRefuse_config (n : Nat) (t : Terms) : (v.admitOrRefuse n t).config = v.config :=
  State.fixed_config (MachineView.admitOrRefuse_fixed v n t)
@[simp] theorem MachineView.admitOrRefuse_station (n : Nat) (t : Terms) : (v.admitOrRefuse n t).station = v.station :=
  State.fixed_station (MachineView.admitOrRefuse_fixed v n t)
@[simp] theorem MachineView.admitOrRefuse_listenTimer (n : Nat) (t : Terms) : (v.admitOrRefuse n t).listenTimer = v.listenTimer :=
  State.fixed_listenTimer (MachineView.admitOrRefuse_fixed v n t)
@[simp] theorem MachineView.admitOrRefuse_time (n : Nat) (t : Terms) : (v.admitOrRefuse n t).time = v.time :=
  State.fixed_time (MachineView.admitOrRefuse_fixed v n t)
@[simp] theorem MachineView.admitOrRefuse_port (n : Nat) (t : Terms) : (v.admitOrRefuse n t).port = v.port :=
  State.fixed_port (MachineView.admitOrRefuse_fixed v n t)
@[simp] theorem MachineView.admitOrRefuse_pending (n : Nat) (t : Terms) : (v.admitOrRefuse n t).pending = v.pending :=
  State.fixed_pending (MachineView.admitOrRefuse_fixed v n t)
@[simp] theorem MachineView.enter_fixed (st : BindingState) : (v.enter st).fixed = v.fixed := by
  unfold MachineView.enter
  try dsimp only
  repeat' split
  all_goals first | rfl | (simp; done) | simp [State.fixed]

@[simp] theorem MachineView.enter_config (st : BindingState) : (v.enter st).config = v.config :=
  State.fixed_config (MachineView.enter_fixed v st)
@[simp] theorem MachineView.enter_station (st : BindingState) : (v.enter st).station = v.station :=
  State.fixed_station (MachineView.enter_fixed v st)
@[simp] theorem MachineView.enter_listenTimer (st : BindingState) : (v.enter st).listenTimer = v.listenTimer :=
  State.fixed_listenTimer (MachineView.enter_fixed v st)
@[simp] theorem MachineView.enter_time (st : BindingState) : (v.enter st).time = v.time :=
  State.fixed_time (MachineView.enter_fixed v st)
@[simp] theorem MachineView.enter_port (st : BindingState) : (v.enter st).port = v.port :=
  State.fixed_port (MachineView.enter_fixed v st)
@[simp] theorem MachineView.enter_pending (st : BindingState) : (v.enter st).pending = v.pending :=
  State.fixed_pending (MachineView.enter_fixed v st)
@[simp] theorem MachineView.proposeFor_fixed (n : Nat) (t : Terms) : (v.proposeFor n t).fixed = v.fixed := by
  unfold MachineView.proposeFor
  try dsimp only
  repeat' split
  all_goals first | rfl | (simp; done) | simp [State.fixed]

@[simp] theorem MachineView.proposeFor_config (n : Nat) (t : Terms) : (v.proposeFor n t).config = v.config :=
  State.fixed_config (MachineView.proposeFor_fixed v n t)
@[simp] theorem MachineView.proposeFor_station (n : Nat) (t : Terms) : (v.proposeFor n t).station = v.station :=
  State.fixed_station (MachineView.proposeFor_fixed v n t)
@[simp] theorem MachineView.proposeFor_listenTimer (n : Nat) (t : Terms) : (v.proposeFor n t).listenTimer = v.listenTimer :=
  State.fixed_listenTimer (MachineView.proposeFor_fixed v n t)
@[simp] theorem MachineView.proposeFor_time (n : Nat) (t : Terms) : (v.proposeFor n t).time = v.time :=
  State.fixed_time (MachineView.proposeFor_fixed v n t)
@[simp] theorem MachineView.proposeFor_port (n : Nat) (t : Terms) : (v.proposeFor n t).port = v.port :=
  State.fixed_port (MachineView.proposeFor_fixed v n t)
@[simp] theorem MachineView.proposeFor_pending (n : Nat) (t : Terms) : (v.proposeFor n t).pending = v.pending :=
  State.fixed_pending (MachineView.proposeFor_fixed v n t)
@[simp] theorem MachineView.endProposal_fixed (p : Proposal) (r : Reason) : (v.endProposal p r).fixed = v.fixed := by
  unfold MachineView.endProposal
  try dsimp only
  repeat' split
  all_goals first | rfl | (simp; done) | simp [State.fixed]

@[simp] theorem MachineView.endProposal_config (p : Proposal) (r : Reason) : (v.endProposal p r).config = v.config :=
  State.fixed_config (MachineView.endProposal_fixed v p r)
@[simp] theorem MachineView.endProposal_station (p : Proposal) (r : Reason) : (v.endProposal p r).station = v.station :=
  State.fixed_station (MachineView.endProposal_fixed v p r)
@[simp] theorem MachineView.endProposal_listenTimer (p : Proposal) (r : Reason) : (v.endProposal p r).listenTimer = v.listenTimer :=
  State.fixed_listenTimer (MachineView.endProposal_fixed v p r)
@[simp] theorem MachineView.endProposal_time (p : Proposal) (r : Reason) : (v.endProposal p r).time = v.time :=
  State.fixed_time (MachineView.endProposal_fixed v p r)
@[simp] theorem MachineView.endProposal_port (p : Proposal) (r : Reason) : (v.endProposal p r).port = v.port :=
  State.fixed_port (MachineView.endProposal_fixed v p r)
@[simp] theorem MachineView.endProposal_pending (p : Proposal) (r : Reason) : (v.endProposal p r).pending = v.pending :=
  State.fixed_pending (MachineView.endProposal_fixed v p r)
@[simp] theorem MachineView.resetting_fixed : (v.resetting).fixed = v.fixed := by
  unfold MachineView.resetting
  try dsimp only
  repeat' split
  all_goals first | rfl | (simp; done) | simp [State.fixed]

@[simp] theorem MachineView.resetting_config : (v.resetting).config = v.config :=
  State.fixed_config (MachineView.resetting_fixed v)
@[simp] theorem MachineView.resetting_station : (v.resetting).station = v.station :=
  State.fixed_station (MachineView.resetting_fixed v)
@[simp] theorem MachineView.resetting_listenTimer : (v.resetting).listenTimer = v.listenTimer :=
  State.fixed_listenTimer (MachineView.resetting_fixed v)
@[simp] theorem MachineView.resetting_time : (v.resetting).time = v.time :=
  State.fixed_time (MachineView.resetting_fixed v)
@[simp] theorem MachineView.resetting_port : (v.resetting).port = v.port :=
  State.fixed_port (MachineView.resetting_fixed v)
@[simp] theorem MachineView.resetting_pending : (v.resetting).pending = v.pending :=
  State.fixed_pending (MachineView.resetting_fixed v)
@[simp] theorem MachineView.unbind_fixed : (v.unbind).fixed = v.fixed := by
  unfold MachineView.unbind
  try dsimp only
  repeat' split
  all_goals first | rfl | (simp; done) | simp [State.fixed]

@[simp] theorem MachineView.unbind_config : (v.unbind).config = v.config :=
  State.fixed_config (MachineView.unbind_fixed v)
@[simp] theorem MachineView.unbind_station : (v.unbind).station = v.station :=
  State.fixed_station (MachineView.unbind_fixed v)
@[simp] theorem MachineView.unbind_listenTimer : (v.unbind).listenTimer = v.listenTimer :=
  State.fixed_listenTimer (MachineView.unbind_fixed v)
@[simp] theorem MachineView.unbind_time : (v.unbind).time = v.time :=
  State.fixed_time (MachineView.unbind_fixed v)
@[simp] theorem MachineView.unbind_port : (v.unbind).port = v.port :=
  State.fixed_port (MachineView.unbind_fixed v)
@[simp] theorem MachineView.unbind_pending : (v.unbind).pending = v.pending :=
  State.fixed_pending (MachineView.unbind_fixed v)
@[simp] theorem MachineView.openTransfer_fixed (p : Proposal) (k : Nat) : (v.openTransfer p k).fixed = v.fixed := by
  unfold MachineView.openTransfer
  try dsimp only
  repeat' split
  all_goals first | rfl | (simp; done) | simp [State.fixed]

@[simp] theorem MachineView.openTransfer_config (p : Proposal) (k : Nat) : (v.openTransfer p k).config = v.config :=
  State.fixed_config (MachineView.openTransfer_fixed v p k)
@[simp] theorem MachineView.openTransfer_station (p : Proposal) (k : Nat) : (v.openTransfer p k).station = v.station :=
  State.fixed_station (MachineView.openTransfer_fixed v p k)
@[simp] theorem MachineView.openTransfer_listenTimer (p : Proposal) (k : Nat) : (v.openTransfer p k).listenTimer = v.listenTimer :=
  State.fixed_listenTimer (MachineView.openTransfer_fixed v p k)
@[simp] theorem MachineView.openTransfer_time (p : Proposal) (k : Nat) : (v.openTransfer p k).time = v.time :=
  State.fixed_time (MachineView.openTransfer_fixed v p k)
@[simp] theorem MachineView.openTransfer_port (p : Proposal) (k : Nat) : (v.openTransfer p k).port = v.port :=
  State.fixed_port (MachineView.openTransfer_fixed v p k)
@[simp] theorem MachineView.openTransfer_pending (p : Proposal) (k : Nat) : (v.openTransfer p k).pending = v.pending :=
  State.fixed_pending (MachineView.openTransfer_fixed v p k)
@[simp] theorem MachineView.abortTransfer_fixed (r : TransferRecord) (e : Reason) (n : Nat) : (v.abortTransfer r e n).fixed = v.fixed := by
  unfold MachineView.abortTransfer
  try dsimp only
  repeat' split
  all_goals first | rfl | (simp; done) | simp [State.fixed]

@[simp] theorem MachineView.abortTransfer_config (r : TransferRecord) (e : Reason) (n : Nat) : (v.abortTransfer r e n).config = v.config :=
  State.fixed_config (MachineView.abortTransfer_fixed v r e n)
@[simp] theorem MachineView.abortTransfer_station (r : TransferRecord) (e : Reason) (n : Nat) : (v.abortTransfer r e n).station = v.station :=
  State.fixed_station (MachineView.abortTransfer_fixed v r e n)
@[simp] theorem MachineView.abortTransfer_listenTimer (r : TransferRecord) (e : Reason) (n : Nat) : (v.abortTransfer r e n).listenTimer = v.listenTimer :=
  State.fixed_listenTimer (MachineView.abortTransfer_fixed v r e n)
@[simp] theorem MachineView.abortTransfer_time (r : TransferRecord) (e : Reason) (n : Nat) : (v.abortTransfer r e n).time = v.time :=
  State.fixed_time (MachineView.abortTransfer_fixed v r e n)
@[simp] theorem MachineView.abortTransfer_port (r : TransferRecord) (e : Reason) (n : Nat) : (v.abortTransfer r e n).port = v.port :=
  State.fixed_port (MachineView.abortTransfer_fixed v r e n)
@[simp] theorem MachineView.abortTransfer_pending (r : TransferRecord) (e : Reason) (n : Nat) : (v.abortTransfer r e n).pending = v.pending :=
  State.fixed_pending (MachineView.abortTransfer_fixed v r e n)
@[simp] theorem MachineView.abortToBound_fixed (r : TransferRecord) (e : Reason) : (v.abortToBound r e).fixed = v.fixed := by
  unfold MachineView.abortToBound
  try dsimp only
  repeat' split
  all_goals first | rfl | (simp; done) | simp [State.fixed]

@[simp] theorem MachineView.abortToBound_config (r : TransferRecord) (e : Reason) : (v.abortToBound r e).config = v.config :=
  State.fixed_config (MachineView.abortToBound_fixed v r e)
@[simp] theorem MachineView.abortToBound_station (r : TransferRecord) (e : Reason) : (v.abortToBound r e).station = v.station :=
  State.fixed_station (MachineView.abortToBound_fixed v r e)
@[simp] theorem MachineView.abortToBound_listenTimer (r : TransferRecord) (e : Reason) : (v.abortToBound r e).listenTimer = v.listenTimer :=
  State.fixed_listenTimer (MachineView.abortToBound_fixed v r e)
@[simp] theorem MachineView.abortToBound_time (r : TransferRecord) (e : Reason) : (v.abortToBound r e).time = v.time :=
  State.fixed_time (MachineView.abortToBound_fixed v r e)
@[simp] theorem MachineView.abortToBound_port (r : TransferRecord) (e : Reason) : (v.abortToBound r e).port = v.port :=
  State.fixed_port (MachineView.abortToBound_fixed v r e)
@[simp] theorem MachineView.abortToBound_pending (r : TransferRecord) (e : Reason) : (v.abortToBound r e).pending = v.pending :=
  State.fixed_pending (MachineView.abortToBound_fixed v r e)
@[simp] theorem MachineView.commitTransfer_fixed (r : TransferRecord) : (v.commitTransfer r).fixed = v.fixed := by
  unfold MachineView.commitTransfer
  try dsimp only
  repeat' split
  all_goals first | rfl | (simp; done) | simp [State.fixed]

@[simp] theorem MachineView.commitTransfer_config (r : TransferRecord) : (v.commitTransfer r).config = v.config :=
  State.fixed_config (MachineView.commitTransfer_fixed v r)
@[simp] theorem MachineView.commitTransfer_station (r : TransferRecord) : (v.commitTransfer r).station = v.station :=
  State.fixed_station (MachineView.commitTransfer_fixed v r)
@[simp] theorem MachineView.commitTransfer_listenTimer (r : TransferRecord) : (v.commitTransfer r).listenTimer = v.listenTimer :=
  State.fixed_listenTimer (MachineView.commitTransfer_fixed v r)
@[simp] theorem MachineView.commitTransfer_time (r : TransferRecord) : (v.commitTransfer r).time = v.time :=
  State.fixed_time (MachineView.commitTransfer_fixed v r)
@[simp] theorem MachineView.commitTransfer_port (r : TransferRecord) : (v.commitTransfer r).port = v.port :=
  State.fixed_port (MachineView.commitTransfer_fixed v r)
@[simp] theorem MachineView.commitTransfer_pending (r : TransferRecord) : (v.commitTransfer r).pending = v.pending :=
  State.fixed_pending (MachineView.commitTransfer_fixed v r)
@[simp] theorem MachineView.setRecord_fixed (r : TransferRecord) : (v.setRecord r).fixed = v.fixed := by
  unfold MachineView.setRecord
  try dsimp only
  repeat' split
  all_goals first | rfl | (simp; done) | simp [State.fixed]

@[simp] theorem MachineView.setRecord_config (r : TransferRecord) : (v.setRecord r).config = v.config :=
  State.fixed_config (MachineView.setRecord_fixed v r)
@[simp] theorem MachineView.setRecord_station (r : TransferRecord) : (v.setRecord r).station = v.station :=
  State.fixed_station (MachineView.setRecord_fixed v r)
@[simp] theorem MachineView.setRecord_listenTimer (r : TransferRecord) : (v.setRecord r).listenTimer = v.listenTimer :=
  State.fixed_listenTimer (MachineView.setRecord_fixed v r)
@[simp] theorem MachineView.setRecord_time (r : TransferRecord) : (v.setRecord r).time = v.time :=
  State.fixed_time (MachineView.setRecord_fixed v r)
@[simp] theorem MachineView.setRecord_port (r : TransferRecord) : (v.setRecord r).port = v.port :=
  State.fixed_port (MachineView.setRecord_fixed v r)
@[simp] theorem MachineView.setRecord_pending (r : TransferRecord) : (v.setRecord r).pending = v.pending :=
  State.fixed_pending (MachineView.setRecord_fixed v r)
@[simp] theorem MachineView.lagOrAbort_fixed (r : TransferRecord) (n : Nat) : (v.lagOrAbort r n).fixed = v.fixed := by
  unfold MachineView.lagOrAbort
  try dsimp only
  repeat' split
  all_goals first | rfl | (simp; done) | simp [State.fixed]

@[simp] theorem MachineView.lagOrAbort_config (r : TransferRecord) (n : Nat) : (v.lagOrAbort r n).config = v.config :=
  State.fixed_config (MachineView.lagOrAbort_fixed v r n)
@[simp] theorem MachineView.lagOrAbort_station (r : TransferRecord) (n : Nat) : (v.lagOrAbort r n).station = v.station :=
  State.fixed_station (MachineView.lagOrAbort_fixed v r n)
@[simp] theorem MachineView.lagOrAbort_listenTimer (r : TransferRecord) (n : Nat) : (v.lagOrAbort r n).listenTimer = v.listenTimer :=
  State.fixed_listenTimer (MachineView.lagOrAbort_fixed v r n)
@[simp] theorem MachineView.lagOrAbort_time (r : TransferRecord) (n : Nat) : (v.lagOrAbort r n).time = v.time :=
  State.fixed_time (MachineView.lagOrAbort_fixed v r n)
@[simp] theorem MachineView.lagOrAbort_port (r : TransferRecord) (n : Nat) : (v.lagOrAbort r n).port = v.port :=
  State.fixed_port (MachineView.lagOrAbort_fixed v r n)
@[simp] theorem MachineView.lagOrAbort_pending (r : TransferRecord) (n : Nat) : (v.lagOrAbort r n).pending = v.pending :=
  State.fixed_pending (MachineView.lagOrAbort_fixed v r n)
@[simp] theorem MachineView.witness_fixed (r : TransferRecord) (n k : Nat) (ws : List Word) : (v.witness r n k ws).fixed = v.fixed := by
  unfold MachineView.witness
  try dsimp only
  repeat' split
  all_goals first | rfl | (simp; done) | simp [State.fixed]

@[simp] theorem MachineView.witness_config (r : TransferRecord) (n k : Nat) (ws : List Word) : (v.witness r n k ws).config = v.config :=
  State.fixed_config (MachineView.witness_fixed v r n k ws)
@[simp] theorem MachineView.witness_station (r : TransferRecord) (n k : Nat) (ws : List Word) : (v.witness r n k ws).station = v.station :=
  State.fixed_station (MachineView.witness_fixed v r n k ws)
@[simp] theorem MachineView.witness_listenTimer (r : TransferRecord) (n k : Nat) (ws : List Word) : (v.witness r n k ws).listenTimer = v.listenTimer :=
  State.fixed_listenTimer (MachineView.witness_fixed v r n k ws)
@[simp] theorem MachineView.witness_time (r : TransferRecord) (n k : Nat) (ws : List Word) : (v.witness r n k ws).time = v.time :=
  State.fixed_time (MachineView.witness_fixed v r n k ws)
@[simp] theorem MachineView.witness_port (r : TransferRecord) (n k : Nat) (ws : List Word) : (v.witness r n k ws).port = v.port :=
  State.fixed_port (MachineView.witness_fixed v r n k ws)
@[simp] theorem MachineView.witness_pending (r : TransferRecord) (n k : Nat) (ws : List Word) : (v.witness r n k ws).pending = v.pending :=
  State.fixed_pending (MachineView.witness_fixed v r n k ws)
@[simp] theorem MachineView.judgeAccept_fixed (r : TransferRecord) (x : Word) : (v.judgeAccept r x).fixed = v.fixed := by
  unfold MachineView.judgeAccept
  try dsimp only
  repeat' split
  all_goals first | rfl | (simp; done) | simp [State.fixed]

@[simp] theorem MachineView.judgeAccept_config (r : TransferRecord) (x : Word) : (v.judgeAccept r x).config = v.config :=
  State.fixed_config (MachineView.judgeAccept_fixed v r x)
@[simp] theorem MachineView.judgeAccept_station (r : TransferRecord) (x : Word) : (v.judgeAccept r x).station = v.station :=
  State.fixed_station (MachineView.judgeAccept_fixed v r x)
@[simp] theorem MachineView.judgeAccept_listenTimer (r : TransferRecord) (x : Word) : (v.judgeAccept r x).listenTimer = v.listenTimer :=
  State.fixed_listenTimer (MachineView.judgeAccept_fixed v r x)
@[simp] theorem MachineView.judgeAccept_time (r : TransferRecord) (x : Word) : (v.judgeAccept r x).time = v.time :=
  State.fixed_time (MachineView.judgeAccept_fixed v r x)
@[simp] theorem MachineView.judgeAccept_port (r : TransferRecord) (x : Word) : (v.judgeAccept r x).port = v.port :=
  State.fixed_port (MachineView.judgeAccept_fixed v r x)
@[simp] theorem MachineView.judgeAccept_pending (r : TransferRecord) (x : Word) : (v.judgeAccept r x).pending = v.pending :=
  State.fixed_pending (MachineView.judgeAccept_fixed v r x)
@[simp] theorem MachineView.becomeOrphaned_fixed : (v.becomeOrphaned).fixed = v.fixed := by
  unfold MachineView.becomeOrphaned
  try dsimp only
  repeat' split
  all_goals first | rfl | (simp; done) | simp [State.fixed]

@[simp] theorem MachineView.becomeOrphaned_config : (v.becomeOrphaned).config = v.config :=
  State.fixed_config (MachineView.becomeOrphaned_fixed v)
@[simp] theorem MachineView.becomeOrphaned_station : (v.becomeOrphaned).station = v.station :=
  State.fixed_station (MachineView.becomeOrphaned_fixed v)
@[simp] theorem MachineView.becomeOrphaned_listenTimer : (v.becomeOrphaned).listenTimer = v.listenTimer :=
  State.fixed_listenTimer (MachineView.becomeOrphaned_fixed v)
@[simp] theorem MachineView.becomeOrphaned_time : (v.becomeOrphaned).time = v.time :=
  State.fixed_time (MachineView.becomeOrphaned_fixed v)
@[simp] theorem MachineView.becomeOrphaned_port : (v.becomeOrphaned).port = v.port :=
  State.fixed_port (MachineView.becomeOrphaned_fixed v)
@[simp] theorem MachineView.becomeOrphaned_pending : (v.becomeOrphaned).pending = v.pending :=
  State.fixed_pending (MachineView.becomeOrphaned_fixed v)
@[simp] theorem MachineView.orphan_fixed : (v.orphan).fixed = v.fixed := by
  unfold MachineView.orphan
  try dsimp only
  repeat' split
  all_goals first | rfl | (simp; done) | simp [State.fixed]

@[simp] theorem MachineView.orphan_config : (v.orphan).config = v.config :=
  State.fixed_config (MachineView.orphan_fixed v)
@[simp] theorem MachineView.orphan_station : (v.orphan).station = v.station :=
  State.fixed_station (MachineView.orphan_fixed v)
@[simp] theorem MachineView.orphan_listenTimer : (v.orphan).listenTimer = v.listenTimer :=
  State.fixed_listenTimer (MachineView.orphan_fixed v)
@[simp] theorem MachineView.orphan_time : (v.orphan).time = v.time :=
  State.fixed_time (MachineView.orphan_fixed v)
@[simp] theorem MachineView.orphan_port : (v.orphan).port = v.port :=
  State.fixed_port (MachineView.orphan_fixed v)
@[simp] theorem MachineView.orphan_pending : (v.orphan).pending = v.pending :=
  State.fixed_pending (MachineView.orphan_fixed v)
@[simp] theorem MachineView.heartbeatEnd_fixed : (v.heartbeatEnd).fixed = v.fixed := by
  unfold MachineView.heartbeatEnd
  try dsimp only
  repeat' split
  all_goals first | rfl | (simp; done) | simp [State.fixed]

@[simp] theorem MachineView.heartbeatEnd_config : (v.heartbeatEnd).config = v.config :=
  State.fixed_config (MachineView.heartbeatEnd_fixed v)
@[simp] theorem MachineView.heartbeatEnd_station : (v.heartbeatEnd).station = v.station :=
  State.fixed_station (MachineView.heartbeatEnd_fixed v)
@[simp] theorem MachineView.heartbeatEnd_listenTimer : (v.heartbeatEnd).listenTimer = v.listenTimer :=
  State.fixed_listenTimer (MachineView.heartbeatEnd_fixed v)
@[simp] theorem MachineView.heartbeatEnd_time : (v.heartbeatEnd).time = v.time :=
  State.fixed_time (MachineView.heartbeatEnd_fixed v)
@[simp] theorem MachineView.heartbeatEnd_port : (v.heartbeatEnd).port = v.port :=
  State.fixed_port (MachineView.heartbeatEnd_fixed v)
@[simp] theorem MachineView.heartbeatEnd_pending : (v.heartbeatEnd).pending = v.pending :=
  State.fixed_pending (MachineView.heartbeatEnd_fixed v)
@[simp] theorem MachineView.position_fixed (z : ZoneCode) : (v.position z).fixed = v.fixed := by
  unfold MachineView.position
  try dsimp only
  repeat' split
  all_goals first | rfl | (simp; done) | simp [State.fixed]

@[simp] theorem MachineView.position_config (z : ZoneCode) : (v.position z).config = v.config :=
  State.fixed_config (MachineView.position_fixed v z)
@[simp] theorem MachineView.position_station (z : ZoneCode) : (v.position z).station = v.station :=
  State.fixed_station (MachineView.position_fixed v z)
@[simp] theorem MachineView.position_listenTimer (z : ZoneCode) : (v.position z).listenTimer = v.listenTimer :=
  State.fixed_listenTimer (MachineView.position_fixed v z)
@[simp] theorem MachineView.position_time (z : ZoneCode) : (v.position z).time = v.time :=
  State.fixed_time (MachineView.position_fixed v z)
@[simp] theorem MachineView.position_port (z : ZoneCode) : (v.position z).port = v.port :=
  State.fixed_port (MachineView.position_fixed v z)
@[simp] theorem MachineView.position_pending (z : ZoneCode) : (v.position z).pending = v.pending :=
  State.fixed_pending (MachineView.position_fixed v z)
@[simp] theorem MachineView.clearBinding_fixed : (v.clearBinding).fixed = v.fixed := by
  unfold MachineView.clearBinding
  try dsimp only
  repeat' split
  all_goals first | rfl | (simp; done) | simp [State.fixed]

@[simp] theorem MachineView.clearBinding_config : (v.clearBinding).config = v.config :=
  State.fixed_config (MachineView.clearBinding_fixed v)
@[simp] theorem MachineView.clearBinding_station : (v.clearBinding).station = v.station :=
  State.fixed_station (MachineView.clearBinding_fixed v)
@[simp] theorem MachineView.clearBinding_listenTimer : (v.clearBinding).listenTimer = v.listenTimer :=
  State.fixed_listenTimer (MachineView.clearBinding_fixed v)
@[simp] theorem MachineView.clearBinding_time : (v.clearBinding).time = v.time :=
  State.fixed_time (MachineView.clearBinding_fixed v)
@[simp] theorem MachineView.clearBinding_port : (v.clearBinding).port = v.port :=
  State.fixed_port (MachineView.clearBinding_fixed v)
@[simp] theorem MachineView.clearBinding_pending : (v.clearBinding).pending = v.pending :=
  State.fixed_pending (MachineView.clearBinding_fixed v)
@[simp] theorem MachineView.goOnline_fixed : (v.goOnline).fixed = v.fixed := by
  unfold MachineView.goOnline
  try dsimp only
  repeat' split
  all_goals first | rfl | (simp; done) | simp [State.fixed]

@[simp] theorem MachineView.goOnline_config : (v.goOnline).config = v.config :=
  State.fixed_config (MachineView.goOnline_fixed v)
@[simp] theorem MachineView.goOnline_station : (v.goOnline).station = v.station :=
  State.fixed_station (MachineView.goOnline_fixed v)
@[simp] theorem MachineView.goOnline_listenTimer : (v.goOnline).listenTimer = v.listenTimer :=
  State.fixed_listenTimer (MachineView.goOnline_fixed v)
@[simp] theorem MachineView.goOnline_time : (v.goOnline).time = v.time :=
  State.fixed_time (MachineView.goOnline_fixed v)
@[simp] theorem MachineView.goOnline_port : (v.goOnline).port = v.port :=
  State.fixed_port (MachineView.goOnline_fixed v)
@[simp] theorem MachineView.goOnline_pending : (v.goOnline).pending = v.pending :=
  State.fixed_pending (MachineView.goOnline_fixed v)
@[simp] theorem MachineView.takeAsk_fixed (n : Nat) (t : Terms) : (v.takeAsk n t).fixed = v.fixed := by
  unfold MachineView.takeAsk
  try dsimp only
  repeat' split
  all_goals first | rfl | (simp; done) | simp [State.fixed]

@[simp] theorem MachineView.takeAsk_config (n : Nat) (t : Terms) : (v.takeAsk n t).config = v.config :=
  State.fixed_config (MachineView.takeAsk_fixed v n t)
@[simp] theorem MachineView.takeAsk_station (n : Nat) (t : Terms) : (v.takeAsk n t).station = v.station :=
  State.fixed_station (MachineView.takeAsk_fixed v n t)
@[simp] theorem MachineView.takeAsk_listenTimer (n : Nat) (t : Terms) : (v.takeAsk n t).listenTimer = v.listenTimer :=
  State.fixed_listenTimer (MachineView.takeAsk_fixed v n t)
@[simp] theorem MachineView.takeAsk_time (n : Nat) (t : Terms) : (v.takeAsk n t).time = v.time :=
  State.fixed_time (MachineView.takeAsk_fixed v n t)
@[simp] theorem MachineView.takeAsk_port (n : Nat) (t : Terms) : (v.takeAsk n t).port = v.port :=
  State.fixed_port (MachineView.takeAsk_fixed v n t)
@[simp] theorem MachineView.takeAsk_pending (n : Nat) (t : Terms) : (v.takeAsk n t).pending = v.pending :=
  State.fixed_pending (MachineView.takeAsk_fixed v n t)
@[simp] theorem MachineView.takeSeize_fixed (n : Nat) (t : Terms) : (v.takeSeize n t).fixed = v.fixed := by
  unfold MachineView.takeSeize
  try dsimp only
  repeat' split
  all_goals first | rfl | (simp; done) | simp [State.fixed]

@[simp] theorem MachineView.takeSeize_config (n : Nat) (t : Terms) : (v.takeSeize n t).config = v.config :=
  State.fixed_config (MachineView.takeSeize_fixed v n t)
@[simp] theorem MachineView.takeSeize_station (n : Nat) (t : Terms) : (v.takeSeize n t).station = v.station :=
  State.fixed_station (MachineView.takeSeize_fixed v n t)
@[simp] theorem MachineView.takeSeize_listenTimer (n : Nat) (t : Terms) : (v.takeSeize n t).listenTimer = v.listenTimer :=
  State.fixed_listenTimer (MachineView.takeSeize_fixed v n t)
@[simp] theorem MachineView.takeSeize_time (n : Nat) (t : Terms) : (v.takeSeize n t).time = v.time :=
  State.fixed_time (MachineView.takeSeize_fixed v n t)
@[simp] theorem MachineView.takeSeize_port (n : Nat) (t : Terms) : (v.takeSeize n t).port = v.port :=
  State.fixed_port (MachineView.takeSeize_fixed v n t)
@[simp] theorem MachineView.takeSeize_pending (n : Nat) (t : Terms) : (v.takeSeize n t).pending = v.pending :=
  State.fixed_pending (MachineView.takeSeize_fixed v n t)
@[simp] theorem MachineView.controllerYield_fixed (n : Nat) : (v.controllerYield n).fixed = v.fixed := by
  unfold MachineView.controllerYield
  try dsimp only
  repeat' split
  all_goals first | rfl | (simp; done) | simp [State.fixed]

@[simp] theorem MachineView.controllerYield_config (n : Nat) : (v.controllerYield n).config = v.config :=
  State.fixed_config (MachineView.controllerYield_fixed v n)
@[simp] theorem MachineView.controllerYield_station (n : Nat) : (v.controllerYield n).station = v.station :=
  State.fixed_station (MachineView.controllerYield_fixed v n)
@[simp] theorem MachineView.controllerYield_listenTimer (n : Nat) : (v.controllerYield n).listenTimer = v.listenTimer :=
  State.fixed_listenTimer (MachineView.controllerYield_fixed v n)
@[simp] theorem MachineView.controllerYield_time (n : Nat) : (v.controllerYield n).time = v.time :=
  State.fixed_time (MachineView.controllerYield_fixed v n)
@[simp] theorem MachineView.controllerYield_port (n : Nat) : (v.controllerYield n).port = v.port :=
  State.fixed_port (MachineView.controllerYield_fixed v n)
@[simp] theorem MachineView.controllerYield_pending (n : Nat) : (v.controllerYield n).pending = v.pending :=
  State.fixed_pending (MachineView.controllerYield_fixed v n)
@[simp] theorem MachineView.controllerDecline_fixed : (v.controllerDecline).fixed = v.fixed := by
  unfold MachineView.controllerDecline
  try dsimp only
  repeat' split
  all_goals first | rfl | (simp; done) | simp [State.fixed]

@[simp] theorem MachineView.controllerDecline_config : (v.controllerDecline).config = v.config :=
  State.fixed_config (MachineView.controllerDecline_fixed v)
@[simp] theorem MachineView.controllerDecline_station : (v.controllerDecline).station = v.station :=
  State.fixed_station (MachineView.controllerDecline_fixed v)
@[simp] theorem MachineView.controllerDecline_listenTimer : (v.controllerDecline).listenTimer = v.listenTimer :=
  State.fixed_listenTimer (MachineView.controllerDecline_fixed v)
@[simp] theorem MachineView.controllerDecline_time : (v.controllerDecline).time = v.time :=
  State.fixed_time (MachineView.controllerDecline_fixed v)
@[simp] theorem MachineView.controllerDecline_port : (v.controllerDecline).port = v.port :=
  State.fixed_port (MachineView.controllerDecline_fixed v)
@[simp] theorem MachineView.controllerDecline_pending : (v.controllerDecline).pending = v.pending :=
  State.fixed_pending (MachineView.controllerDecline_fixed v)
@[simp] theorem MachineView.controllerRelease_fixed : (v.controllerRelease).fixed = v.fixed := by
  unfold MachineView.controllerRelease
  try dsimp only
  repeat' split
  all_goals first | rfl | (simp; done) | simp [State.fixed]

@[simp] theorem MachineView.controllerRelease_config : (v.controllerRelease).config = v.config :=
  State.fixed_config (MachineView.controllerRelease_fixed v)
@[simp] theorem MachineView.controllerRelease_station : (v.controllerRelease).station = v.station :=
  State.fixed_station (MachineView.controllerRelease_fixed v)
@[simp] theorem MachineView.controllerRelease_listenTimer : (v.controllerRelease).listenTimer = v.listenTimer :=
  State.fixed_listenTimer (MachineView.controllerRelease_fixed v)
@[simp] theorem MachineView.controllerRelease_time : (v.controllerRelease).time = v.time :=
  State.fixed_time (MachineView.controllerRelease_fixed v)
@[simp] theorem MachineView.controllerRelease_port : (v.controllerRelease).port = v.port :=
  State.fixed_port (MachineView.controllerRelease_fixed v)
@[simp] theorem MachineView.controllerRelease_pending : (v.controllerRelease).pending = v.pending :=
  State.fixed_pending (MachineView.controllerRelease_fixed v)
@[simp] theorem MachineView.controllerAdmit_fixed (t : Terms) : (v.controllerAdmit t).fixed = v.fixed := by
  unfold MachineView.controllerAdmit
  try dsimp only
  repeat' split
  all_goals first | rfl | (simp; done) | simp [State.fixed]

@[simp] theorem MachineView.controllerAdmit_config (t : Terms) : (v.controllerAdmit t).config = v.config :=
  State.fixed_config (MachineView.controllerAdmit_fixed v t)
@[simp] theorem MachineView.controllerAdmit_station (t : Terms) : (v.controllerAdmit t).station = v.station :=
  State.fixed_station (MachineView.controllerAdmit_fixed v t)
@[simp] theorem MachineView.controllerAdmit_listenTimer (t : Terms) : (v.controllerAdmit t).listenTimer = v.listenTimer :=
  State.fixed_listenTimer (MachineView.controllerAdmit_fixed v t)
@[simp] theorem MachineView.controllerAdmit_time (t : Terms) : (v.controllerAdmit t).time = v.time :=
  State.fixed_time (MachineView.controllerAdmit_fixed v t)
@[simp] theorem MachineView.controllerAdmit_port (t : Terms) : (v.controllerAdmit t).port = v.port :=
  State.fixed_port (MachineView.controllerAdmit_fixed v t)
@[simp] theorem MachineView.controllerAdmit_pending (t : Terms) : (v.controllerAdmit t).pending = v.pending :=
  State.fixed_pending (MachineView.controllerAdmit_fixed v t)
@[simp] theorem MachineView.takeAbandon_fixed (n : Nat) (e : Reason) (r : TransferRecord) : (v.takeAbandon n e r).fixed = v.fixed := by
  unfold MachineView.takeAbandon
  try dsimp only
  repeat' split
  all_goals first | rfl | (simp; done) | simp [State.fixed]

@[simp] theorem MachineView.takeAbandon_config (n : Nat) (e : Reason) (r : TransferRecord) : (v.takeAbandon n e r).config = v.config :=
  State.fixed_config (MachineView.takeAbandon_fixed v n e r)
@[simp] theorem MachineView.takeAbandon_station (n : Nat) (e : Reason) (r : TransferRecord) : (v.takeAbandon n e r).station = v.station :=
  State.fixed_station (MachineView.takeAbandon_fixed v n e r)
@[simp] theorem MachineView.takeAbandon_listenTimer (n : Nat) (e : Reason) (r : TransferRecord) : (v.takeAbandon n e r).listenTimer = v.listenTimer :=
  State.fixed_listenTimer (MachineView.takeAbandon_fixed v n e r)
@[simp] theorem MachineView.takeAbandon_time (n : Nat) (e : Reason) (r : TransferRecord) : (v.takeAbandon n e r).time = v.time :=
  State.fixed_time (MachineView.takeAbandon_fixed v n e r)
@[simp] theorem MachineView.takeAbandon_port (n : Nat) (e : Reason) (r : TransferRecord) : (v.takeAbandon n e r).port = v.port :=
  State.fixed_port (MachineView.takeAbandon_fixed v n e r)
@[simp] theorem MachineView.takeAbandon_pending (n : Nat) (e : Reason) (r : TransferRecord) : (v.takeAbandon n e r).pending = v.pending :=
  State.fixed_pending (MachineView.takeAbandon_fixed v n e r)
@[simp] theorem MachineView.rampEnd_fixed (r : Ramp) : (v.rampEnd r).fixed = v.fixed := by
  unfold MachineView.rampEnd
  try dsimp only
  repeat' split
  all_goals first | rfl | (simp; done) | simp [State.fixed]

@[simp] theorem MachineView.rampEnd_config (r : Ramp) : (v.rampEnd r).config = v.config :=
  State.fixed_config (MachineView.rampEnd_fixed v r)
@[simp] theorem MachineView.rampEnd_station (r : Ramp) : (v.rampEnd r).station = v.station :=
  State.fixed_station (MachineView.rampEnd_fixed v r)
@[simp] theorem MachineView.rampEnd_listenTimer (r : Ramp) : (v.rampEnd r).listenTimer = v.listenTimer :=
  State.fixed_listenTimer (MachineView.rampEnd_fixed v r)
@[simp] theorem MachineView.rampEnd_time (r : Ramp) : (v.rampEnd r).time = v.time :=
  State.fixed_time (MachineView.rampEnd_fixed v r)
@[simp] theorem MachineView.rampEnd_port (r : Ramp) : (v.rampEnd r).port = v.port :=
  State.fixed_port (MachineView.rampEnd_fixed v r)
@[simp] theorem MachineView.rampEnd_pending (r : Ramp) : (v.rampEnd r).pending = v.pending :=
  State.fixed_pending (MachineView.rampEnd_fixed v r)
@[simp] theorem MachineView.strobeEnd_fixed : (v.strobeEnd).fixed = v.fixed := by
  unfold MachineView.strobeEnd
  try dsimp only
  repeat' split
  all_goals first | rfl | (simp; done) | simp [State.fixed]

@[simp] theorem MachineView.strobeEnd_config : (v.strobeEnd).config = v.config :=
  State.fixed_config (MachineView.strobeEnd_fixed v)
@[simp] theorem MachineView.strobeEnd_station : (v.strobeEnd).station = v.station :=
  State.fixed_station (MachineView.strobeEnd_fixed v)
@[simp] theorem MachineView.strobeEnd_listenTimer : (v.strobeEnd).listenTimer = v.listenTimer :=
  State.fixed_listenTimer (MachineView.strobeEnd_fixed v)
@[simp] theorem MachineView.strobeEnd_time : (v.strobeEnd).time = v.time :=
  State.fixed_time (MachineView.strobeEnd_fixed v)
@[simp] theorem MachineView.strobeEnd_port : (v.strobeEnd).port = v.port :=
  State.fixed_port (MachineView.strobeEnd_fixed v)
@[simp] theorem MachineView.strobeEnd_pending : (v.strobeEnd).pending = v.pending :=
  State.fixed_pending (MachineView.strobeEnd_fixed v)

end

/-! ### Rules of a CHAIR -/

section
variable (w : ChairView)

@[simp] theorem ChairView.mk_fixed (s : State) (c : ChairBlocks) :
    (ChairView.mk s c).fixed = s.fixed := rfl

@[simp] theorem ChairView.sendTo_fixed (n : Nat) (b : Body) : (w.sendTo n b).fixed = w.fixed := by
  unfold ChairView.sendTo
  try dsimp only
  repeat' split
  all_goals first | rfl | (simp; done) | simp [State.fixed]

@[simp] theorem ChairView.sendTo_config (n : Nat) (b : Body) : (w.sendTo n b).config = w.config :=
  State.fixed_config (ChairView.sendTo_fixed w n b)
@[simp] theorem ChairView.sendTo_station (n : Nat) (b : Body) : (w.sendTo n b).station = w.station :=
  State.fixed_station (ChairView.sendTo_fixed w n b)
@[simp] theorem ChairView.sendTo_listenTimer (n : Nat) (b : Body) : (w.sendTo n b).listenTimer = w.listenTimer :=
  State.fixed_listenTimer (ChairView.sendTo_fixed w n b)
@[simp] theorem ChairView.sendTo_time (n : Nat) (b : Body) : (w.sendTo n b).time = w.time :=
  State.fixed_time (ChairView.sendTo_fixed w n b)
@[simp] theorem ChairView.sendTo_port (n : Nat) (b : Body) : (w.sendTo n b).port = w.port :=
  State.fixed_port (ChairView.sendTo_fixed w n b)
@[simp] theorem ChairView.sendTo_pending (n : Nat) (b : Body) : (w.sendTo n b).pending = w.pending :=
  State.fixed_pending (ChairView.sendTo_fixed w n b)
@[simp] theorem ChairView.updateSeat_fixed (i : Fin 4) (g : Seat → Seat) : (w.updateSeat i g).fixed = w.fixed := by
  unfold ChairView.updateSeat
  try dsimp only
  repeat' split
  all_goals first | rfl | (simp; done) | simp [State.fixed]

@[simp] theorem ChairView.updateSeat_config (i : Fin 4) (g : Seat → Seat) : (w.updateSeat i g).config = w.config :=
  State.fixed_config (ChairView.updateSeat_fixed w i g)
@[simp] theorem ChairView.updateSeat_station (i : Fin 4) (g : Seat → Seat) : (w.updateSeat i g).station = w.station :=
  State.fixed_station (ChairView.updateSeat_fixed w i g)
@[simp] theorem ChairView.updateSeat_listenTimer (i : Fin 4) (g : Seat → Seat) : (w.updateSeat i g).listenTimer = w.listenTimer :=
  State.fixed_listenTimer (ChairView.updateSeat_fixed w i g)
@[simp] theorem ChairView.updateSeat_time (i : Fin 4) (g : Seat → Seat) : (w.updateSeat i g).time = w.time :=
  State.fixed_time (ChairView.updateSeat_fixed w i g)
@[simp] theorem ChairView.updateSeat_port (i : Fin 4) (g : Seat → Seat) : (w.updateSeat i g).port = w.port :=
  State.fixed_port (ChairView.updateSeat_fixed w i g)
@[simp] theorem ChairView.updateSeat_pending (i : Fin 4) (g : Seat → Seat) : (w.updateSeat i g).pending = w.pending :=
  State.fixed_pending (ChairView.updateSeat_fixed w i g)
@[simp] theorem ChairView.updateArea_fixed (i : Fin 4) (g : ContextArea → ContextArea) : (w.updateArea i g).fixed = w.fixed := by
  unfold ChairView.updateArea
  try dsimp only
  repeat' split
  all_goals first | rfl | (simp; done) | simp [State.fixed]

@[simp] theorem ChairView.updateArea_config (i : Fin 4) (g : ContextArea → ContextArea) : (w.updateArea i g).config = w.config :=
  State.fixed_config (ChairView.updateArea_fixed w i g)
@[simp] theorem ChairView.updateArea_station (i : Fin 4) (g : ContextArea → ContextArea) : (w.updateArea i g).station = w.station :=
  State.fixed_station (ChairView.updateArea_fixed w i g)
@[simp] theorem ChairView.updateArea_listenTimer (i : Fin 4) (g : ContextArea → ContextArea) : (w.updateArea i g).listenTimer = w.listenTimer :=
  State.fixed_listenTimer (ChairView.updateArea_fixed w i g)
@[simp] theorem ChairView.updateArea_time (i : Fin 4) (g : ContextArea → ContextArea) : (w.updateArea i g).time = w.time :=
  State.fixed_time (ChairView.updateArea_fixed w i g)
@[simp] theorem ChairView.updateArea_port (i : Fin 4) (g : ContextArea → ContextArea) : (w.updateArea i g).port = w.port :=
  State.fixed_port (ChairView.updateArea_fixed w i g)
@[simp] theorem ChairView.updateArea_pending (i : Fin 4) (g : ContextArea → ContextArea) : (w.updateArea i g).pending = w.pending :=
  State.fixed_pending (ChairView.updateArea_fixed w i g)
@[simp] theorem ChairView.setActive_fixed (a : Option ActiveTransfer) : (w.setActive a).fixed = w.fixed := by
  unfold ChairView.setActive
  try dsimp only
  repeat' split
  all_goals first | rfl | (simp; done) | simp [State.fixed]

@[simp] theorem ChairView.setActive_config (a : Option ActiveTransfer) : (w.setActive a).config = w.config :=
  State.fixed_config (ChairView.setActive_fixed w a)
@[simp] theorem ChairView.setActive_station (a : Option ActiveTransfer) : (w.setActive a).station = w.station :=
  State.fixed_station (ChairView.setActive_fixed w a)
@[simp] theorem ChairView.setActive_listenTimer (a : Option ActiveTransfer) : (w.setActive a).listenTimer = w.listenTimer :=
  State.fixed_listenTimer (ChairView.setActive_fixed w a)
@[simp] theorem ChairView.setActive_time (a : Option ActiveTransfer) : (w.setActive a).time = w.time :=
  State.fixed_time (ChairView.setActive_fixed w a)
@[simp] theorem ChairView.setActive_port (a : Option ActiveTransfer) : (w.setActive a).port = w.port :=
  State.fixed_port (ChairView.setActive_fixed w a)
@[simp] theorem ChairView.setActive_pending (a : Option ActiveTransfer) : (w.setActive a).pending = w.pending :=
  State.fixed_pending (ChairView.setActive_fixed w a)
@[simp] theorem ChairView.setPendingReceive_fixed (p : Option PendingReceive) : (w.setPendingReceive p).fixed = w.fixed := by
  unfold ChairView.setPendingReceive
  try dsimp only
  repeat' split
  all_goals first | rfl | (simp; done) | simp [State.fixed]

@[simp] theorem ChairView.setPendingReceive_config (p : Option PendingReceive) : (w.setPendingReceive p).config = w.config :=
  State.fixed_config (ChairView.setPendingReceive_fixed w p)
@[simp] theorem ChairView.setPendingReceive_station (p : Option PendingReceive) : (w.setPendingReceive p).station = w.station :=
  State.fixed_station (ChairView.setPendingReceive_fixed w p)
@[simp] theorem ChairView.setPendingReceive_listenTimer (p : Option PendingReceive) : (w.setPendingReceive p).listenTimer = w.listenTimer :=
  State.fixed_listenTimer (ChairView.setPendingReceive_fixed w p)
@[simp] theorem ChairView.setPendingReceive_time (p : Option PendingReceive) : (w.setPendingReceive p).time = w.time :=
  State.fixed_time (ChairView.setPendingReceive_fixed w p)
@[simp] theorem ChairView.setPendingReceive_port (p : Option PendingReceive) : (w.setPendingReceive p).port = w.port :=
  State.fixed_port (ChairView.setPendingReceive_fixed w p)
@[simp] theorem ChairView.setPendingReceive_pending (p : Option PendingReceive) : (w.setPendingReceive p).pending = w.pending :=
  State.fixed_pending (ChairView.setPendingReceive_fixed w p)
@[simp] theorem ChairView.pump_fixed (fuel : Nat) : ∀ (a : ActiveTransfer) (r : Sender) (v : ChairView),
    (v.pump fuel a r).fixed = v.fixed := by
  induction fuel with
  | zero => intro a r v; simp [ChairView.pump]
  | succ k ih =>
    intro a r v
    unfold ChairView.pump
    repeat' split
    all_goals first | simp [ih] | (rw [ih]; simp [State.fixed])

@[simp] theorem ChairView.pump_config (k : Nat) (a : ActiveTransfer) (r : Sender) : (w.pump k a r).config = w.config :=
  State.fixed_config (ChairView.pump_fixed k a r w)
@[simp] theorem ChairView.pump_station (k : Nat) (a : ActiveTransfer) (r : Sender) : (w.pump k a r).station = w.station :=
  State.fixed_station (ChairView.pump_fixed k a r w)
@[simp] theorem ChairView.pump_listenTimer (k : Nat) (a : ActiveTransfer) (r : Sender) : (w.pump k a r).listenTimer = w.listenTimer :=
  State.fixed_listenTimer (ChairView.pump_fixed k a r w)
@[simp] theorem ChairView.pump_time (k : Nat) (a : ActiveTransfer) (r : Sender) : (w.pump k a r).time = w.time :=
  State.fixed_time (ChairView.pump_fixed k a r w)
@[simp] theorem ChairView.pump_port (k : Nat) (a : ActiveTransfer) (r : Sender) : (w.pump k a r).port = w.port :=
  State.fixed_port (ChairView.pump_fixed k a r w)
@[simp] theorem ChairView.pump_pending (k : Nat) (a : ActiveTransfer) (r : Sender) : (w.pump k a r).pending = w.pending :=
  State.fixed_pending (ChairView.pump_fixed k a r w)
@[simp] theorem ChairView.runSender_fixed (a : ActiveTransfer) (r : Sender) : (w.runSender a r).fixed = w.fixed := by
  unfold ChairView.runSender
  try dsimp only
  repeat' split
  all_goals first | rfl | (simp; done) | simp [State.fixed]

@[simp] theorem ChairView.runSender_config (a : ActiveTransfer) (r : Sender) : (w.runSender a r).config = w.config :=
  State.fixed_config (ChairView.runSender_fixed w a r)
@[simp] theorem ChairView.runSender_station (a : ActiveTransfer) (r : Sender) : (w.runSender a r).station = w.station :=
  State.fixed_station (ChairView.runSender_fixed w a r)
@[simp] theorem ChairView.runSender_listenTimer (a : ActiveTransfer) (r : Sender) : (w.runSender a r).listenTimer = w.listenTimer :=
  State.fixed_listenTimer (ChairView.runSender_fixed w a r)
@[simp] theorem ChairView.runSender_time (a : ActiveTransfer) (r : Sender) : (w.runSender a r).time = w.time :=
  State.fixed_time (ChairView.runSender_fixed w a r)
@[simp] theorem ChairView.runSender_port (a : ActiveTransfer) (r : Sender) : (w.runSender a r).port = w.port :=
  State.fixed_port (ChairView.runSender_fixed w a r)
@[simp] theorem ChairView.runSender_pending (a : ActiveTransfer) (r : Sender) : (w.runSender a r).pending = w.pending :=
  State.fixed_pending (ChairView.runSender_fixed w a r)
@[simp] theorem ChairView.startSender_fixed (i : Fin 4) (n k l m : Nat) : (w.startSender i n k l m).fixed = w.fixed := by
  unfold ChairView.startSender
  try dsimp only
  repeat' split
  all_goals first | rfl | (simp; done) | simp [State.fixed]

@[simp] theorem ChairView.startSender_config (i : Fin 4) (n k l m : Nat) : (w.startSender i n k l m).config = w.config :=
  State.fixed_config (ChairView.startSender_fixed w i n k l m)
@[simp] theorem ChairView.startSender_station (i : Fin 4) (n k l m : Nat) : (w.startSender i n k l m).station = w.station :=
  State.fixed_station (ChairView.startSender_fixed w i n k l m)
@[simp] theorem ChairView.startSender_listenTimer (i : Fin 4) (n k l m : Nat) : (w.startSender i n k l m).listenTimer = w.listenTimer :=
  State.fixed_listenTimer (ChairView.startSender_fixed w i n k l m)
@[simp] theorem ChairView.startSender_time (i : Fin 4) (n k l m : Nat) : (w.startSender i n k l m).time = w.time :=
  State.fixed_time (ChairView.startSender_fixed w i n k l m)
@[simp] theorem ChairView.startSender_port (i : Fin 4) (n k l m : Nat) : (w.startSender i n k l m).port = w.port :=
  State.fixed_port (ChairView.startSender_fixed w i n k l m)
@[simp] theorem ChairView.startSender_pending (i : Fin 4) (n k l m : Nat) : (w.startSender i n k l m).pending = w.pending :=
  State.fixed_pending (ChairView.startSender_fixed w i n k l m)
@[simp] theorem ChairView.withdraw_fixed (a : ActiveTransfer) (r : Sender) :
    (w.withdraw a r).1.fixed = w.fixed := rfl

@[simp] theorem ChairView.withdraw_config (a : ActiveTransfer) (r : Sender) : (w.withdraw a r).1.config = w.config :=
  State.fixed_config (ChairView.withdraw_fixed w a r)
@[simp] theorem ChairView.withdraw_station (a : ActiveTransfer) (r : Sender) : (w.withdraw a r).1.station = w.station :=
  State.fixed_station (ChairView.withdraw_fixed w a r)
@[simp] theorem ChairView.withdraw_listenTimer (a : ActiveTransfer) (r : Sender) : (w.withdraw a r).1.listenTimer = w.listenTimer :=
  State.fixed_listenTimer (ChairView.withdraw_fixed w a r)
@[simp] theorem ChairView.withdraw_time (a : ActiveTransfer) (r : Sender) : (w.withdraw a r).1.time = w.time :=
  State.fixed_time (ChairView.withdraw_fixed w a r)
@[simp] theorem ChairView.withdraw_port (a : ActiveTransfer) (r : Sender) : (w.withdraw a r).1.port = w.port :=
  State.fixed_port (ChairView.withdraw_fixed w a r)
@[simp] theorem ChairView.withdraw_pending (a : ActiveTransfer) (r : Sender) : (w.withdraw a r).1.pending = w.pending :=
  State.fixed_pending (ChairView.withdraw_fixed w a r)
@[simp] theorem ChairView.startBurst_fixed (a : ActiveTransfer) (r : Sender) (n k : Nat) : (w.startBurst a r n k).fixed = w.fixed := by
  unfold ChairView.startBurst
  try dsimp only
  repeat' split
  all_goals first | rfl | (simp; done) | simp [State.fixed]

@[simp] theorem ChairView.startBurst_config (a : ActiveTransfer) (r : Sender) (n k : Nat) : (w.startBurst a r n k).config = w.config :=
  State.fixed_config (ChairView.startBurst_fixed w a r n k)
@[simp] theorem ChairView.startBurst_station (a : ActiveTransfer) (r : Sender) (n k : Nat) : (w.startBurst a r n k).station = w.station :=
  State.fixed_station (ChairView.startBurst_fixed w a r n k)
@[simp] theorem ChairView.startBurst_listenTimer (a : ActiveTransfer) (r : Sender) (n k : Nat) : (w.startBurst a r n k).listenTimer = w.listenTimer :=
  State.fixed_listenTimer (ChairView.startBurst_fixed w a r n k)
@[simp] theorem ChairView.startBurst_time (a : ActiveTransfer) (r : Sender) (n k : Nat) : (w.startBurst a r n k).time = w.time :=
  State.fixed_time (ChairView.startBurst_fixed w a r n k)
@[simp] theorem ChairView.startBurst_port (a : ActiveTransfer) (r : Sender) (n k : Nat) : (w.startBurst a r n k).port = w.port :=
  State.fixed_port (ChairView.startBurst_fixed w a r n k)
@[simp] theorem ChairView.startBurst_pending (a : ActiveTransfer) (r : Sender) (n k : Nat) : (w.startBurst a r n k).pending = w.pending :=
  State.fixed_pending (ChairView.startBurst_fixed w a r n k)
@[simp] theorem ChairView.senderGo_fixed (a : ActiveTransfer) (r : Sender) (n k : Nat) : (w.senderGo a r n k).fixed = w.fixed := by
  unfold ChairView.senderGo
  try dsimp only
  repeat' split
  all_goals first | rfl | (simp; done) | simp [State.fixed]

@[simp] theorem ChairView.senderGo_config (a : ActiveTransfer) (r : Sender) (n k : Nat) : (w.senderGo a r n k).config = w.config :=
  State.fixed_config (ChairView.senderGo_fixed w a r n k)
@[simp] theorem ChairView.senderGo_station (a : ActiveTransfer) (r : Sender) (n k : Nat) : (w.senderGo a r n k).station = w.station :=
  State.fixed_station (ChairView.senderGo_fixed w a r n k)
@[simp] theorem ChairView.senderGo_listenTimer (a : ActiveTransfer) (r : Sender) (n k : Nat) : (w.senderGo a r n k).listenTimer = w.listenTimer :=
  State.fixed_listenTimer (ChairView.senderGo_fixed w a r n k)
@[simp] theorem ChairView.senderGo_time (a : ActiveTransfer) (r : Sender) (n k : Nat) : (w.senderGo a r n k).time = w.time :=
  State.fixed_time (ChairView.senderGo_fixed w a r n k)
@[simp] theorem ChairView.senderGo_port (a : ActiveTransfer) (r : Sender) (n k : Nat) : (w.senderGo a r n k).port = w.port :=
  State.fixed_port (ChairView.senderGo_fixed w a r n k)
@[simp] theorem ChairView.senderGo_pending (a : ActiveTransfer) (r : Sender) (n k : Nat) : (w.senderGo a r n k).pending = w.pending :=
  State.fixed_pending (ChairView.senderGo_fixed w a r n k)
@[simp] theorem ChairView.senderHold_fixed (a : ActiveTransfer) (r : Sender) (n : Nat) : (w.senderHold a r n).fixed = w.fixed := by
  unfold ChairView.senderHold
  try dsimp only
  repeat' split
  all_goals first | rfl | (simp; done) | simp [State.fixed]

@[simp] theorem ChairView.senderHold_config (a : ActiveTransfer) (r : Sender) (n : Nat) : (w.senderHold a r n).config = w.config :=
  State.fixed_config (ChairView.senderHold_fixed w a r n)
@[simp] theorem ChairView.senderHold_station (a : ActiveTransfer) (r : Sender) (n : Nat) : (w.senderHold a r n).station = w.station :=
  State.fixed_station (ChairView.senderHold_fixed w a r n)
@[simp] theorem ChairView.senderHold_listenTimer (a : ActiveTransfer) (r : Sender) (n : Nat) : (w.senderHold a r n).listenTimer = w.listenTimer :=
  State.fixed_listenTimer (ChairView.senderHold_fixed w a r n)
@[simp] theorem ChairView.senderHold_time (a : ActiveTransfer) (r : Sender) (n : Nat) : (w.senderHold a r n).time = w.time :=
  State.fixed_time (ChairView.senderHold_fixed w a r n)
@[simp] theorem ChairView.senderHold_port (a : ActiveTransfer) (r : Sender) (n : Nat) : (w.senderHold a r n).port = w.port :=
  State.fixed_port (ChairView.senderHold_fixed w a r n)
@[simp] theorem ChairView.senderHold_pending (a : ActiveTransfer) (r : Sender) (n : Nat) : (w.senderHold a r n).pending = w.pending :=
  State.fixed_pending (ChairView.senderHold_fixed w a r n)
@[simp] theorem ChairView.senderStop_fixed (a : ActiveTransfer) (r : Sender) (n : Nat) : (w.senderStop a r n).fixed = w.fixed := by
  unfold ChairView.senderStop
  try dsimp only
  repeat' split
  all_goals first | rfl | (simp; done) | simp [State.fixed]

@[simp] theorem ChairView.senderStop_config (a : ActiveTransfer) (r : Sender) (n : Nat) : (w.senderStop a r n).config = w.config :=
  State.fixed_config (ChairView.senderStop_fixed w a r n)
@[simp] theorem ChairView.senderStop_station (a : ActiveTransfer) (r : Sender) (n : Nat) : (w.senderStop a r n).station = w.station :=
  State.fixed_station (ChairView.senderStop_fixed w a r n)
@[simp] theorem ChairView.senderStop_listenTimer (a : ActiveTransfer) (r : Sender) (n : Nat) : (w.senderStop a r n).listenTimer = w.listenTimer :=
  State.fixed_listenTimer (ChairView.senderStop_fixed w a r n)
@[simp] theorem ChairView.senderStop_time (a : ActiveTransfer) (r : Sender) (n : Nat) : (w.senderStop a r n).time = w.time :=
  State.fixed_time (ChairView.senderStop_fixed w a r n)
@[simp] theorem ChairView.senderStop_port (a : ActiveTransfer) (r : Sender) (n : Nat) : (w.senderStop a r n).port = w.port :=
  State.fixed_port (ChairView.senderStop_fixed w a r n)
@[simp] theorem ChairView.senderStop_pending (a : ActiveTransfer) (r : Sender) (n : Nat) : (w.senderStop a r n).pending = w.pending :=
  State.fixed_pending (ChairView.senderStop_fixed w a r n)
@[simp] theorem ChairView.segmentLeft_fixed : (w.segmentLeft).fixed = w.fixed := by
  unfold ChairView.segmentLeft
  try dsimp only
  repeat' split
  all_goals first | rfl | (simp; done) | simp [State.fixed]

@[simp] theorem ChairView.segmentLeft_config : (w.segmentLeft).config = w.config :=
  State.fixed_config (ChairView.segmentLeft_fixed w)
@[simp] theorem ChairView.segmentLeft_station : (w.segmentLeft).station = w.station :=
  State.fixed_station (ChairView.segmentLeft_fixed w)
@[simp] theorem ChairView.segmentLeft_listenTimer : (w.segmentLeft).listenTimer = w.listenTimer :=
  State.fixed_listenTimer (ChairView.segmentLeft_fixed w)
@[simp] theorem ChairView.segmentLeft_time : (w.segmentLeft).time = w.time :=
  State.fixed_time (ChairView.segmentLeft_fixed w)
@[simp] theorem ChairView.segmentLeft_port : (w.segmentLeft).port = w.port :=
  State.fixed_port (ChairView.segmentLeft_fixed w)
@[simp] theorem ChairView.segmentLeft_pending : (w.segmentLeft).pending = w.pending :=
  State.fixed_pending (ChairView.segmentLeft_fixed w)
@[simp] theorem ChairView.setReceiver_fixed (a : ActiveTransfer) (r : Receiver) : (w.setReceiver a r).fixed = w.fixed := by
  unfold ChairView.setReceiver
  try dsimp only
  repeat' split
  all_goals first | rfl | (simp; done) | simp [State.fixed]

@[simp] theorem ChairView.setReceiver_config (a : ActiveTransfer) (r : Receiver) : (w.setReceiver a r).config = w.config :=
  State.fixed_config (ChairView.setReceiver_fixed w a r)
@[simp] theorem ChairView.setReceiver_station (a : ActiveTransfer) (r : Receiver) : (w.setReceiver a r).station = w.station :=
  State.fixed_station (ChairView.setReceiver_fixed w a r)
@[simp] theorem ChairView.setReceiver_listenTimer (a : ActiveTransfer) (r : Receiver) : (w.setReceiver a r).listenTimer = w.listenTimer :=
  State.fixed_listenTimer (ChairView.setReceiver_fixed w a r)
@[simp] theorem ChairView.setReceiver_time (a : ActiveTransfer) (r : Receiver) : (w.setReceiver a r).time = w.time :=
  State.fixed_time (ChairView.setReceiver_fixed w a r)
@[simp] theorem ChairView.setReceiver_port (a : ActiveTransfer) (r : Receiver) : (w.setReceiver a r).port = w.port :=
  State.fixed_port (ChairView.setReceiver_fixed w a r)
@[simp] theorem ChairView.setReceiver_pending (a : ActiveTransfer) (r : Receiver) : (w.setReceiver a r).pending = w.pending :=
  State.fixed_pending (ChairView.setReceiver_fixed w a r)
@[simp] theorem ChairView.startReceiver_fixed (p : PendingReceive) : (w.startReceiver p).fixed = w.fixed := by
  unfold ChairView.startReceiver
  try dsimp only
  repeat' split
  all_goals first | rfl | (simp; done) | simp [State.fixed]

@[simp] theorem ChairView.startReceiver_config (p : PendingReceive) : (w.startReceiver p).config = w.config :=
  State.fixed_config (ChairView.startReceiver_fixed w p)
@[simp] theorem ChairView.startReceiver_station (p : PendingReceive) : (w.startReceiver p).station = w.station :=
  State.fixed_station (ChairView.startReceiver_fixed w p)
@[simp] theorem ChairView.startReceiver_listenTimer (p : PendingReceive) : (w.startReceiver p).listenTimer = w.listenTimer :=
  State.fixed_listenTimer (ChairView.startReceiver_fixed w p)
@[simp] theorem ChairView.startReceiver_time (p : PendingReceive) : (w.startReceiver p).time = w.time :=
  State.fixed_time (ChairView.startReceiver_fixed w p)
@[simp] theorem ChairView.startReceiver_port (p : PendingReceive) : (w.startReceiver p).port = w.port :=
  State.fixed_port (ChairView.startReceiver_fixed w p)
@[simp] theorem ChairView.startReceiver_pending (p : PendingReceive) : (w.startReceiver p).pending = w.pending :=
  State.fixed_pending (ChairView.startReceiver_fixed w p)
@[simp] theorem ChairView.nextRun_fixed (a : ActiveTransfer) (r : Receiver) (n : Nat) : (w.nextRun a r n).fixed = w.fixed := by
  unfold ChairView.nextRun
  try dsimp only
  repeat' split
  all_goals first | rfl | (simp; done) | simp [State.fixed]

@[simp] theorem ChairView.nextRun_config (a : ActiveTransfer) (r : Receiver) (n : Nat) : (w.nextRun a r n).config = w.config :=
  State.fixed_config (ChairView.nextRun_fixed w a r n)
@[simp] theorem ChairView.nextRun_station (a : ActiveTransfer) (r : Receiver) (n : Nat) : (w.nextRun a r n).station = w.station :=
  State.fixed_station (ChairView.nextRun_fixed w a r n)
@[simp] theorem ChairView.nextRun_listenTimer (a : ActiveTransfer) (r : Receiver) (n : Nat) : (w.nextRun a r n).listenTimer = w.listenTimer :=
  State.fixed_listenTimer (ChairView.nextRun_fixed w a r n)
@[simp] theorem ChairView.nextRun_time (a : ActiveTransfer) (r : Receiver) (n : Nat) : (w.nextRun a r n).time = w.time :=
  State.fixed_time (ChairView.nextRun_fixed w a r n)
@[simp] theorem ChairView.nextRun_port (a : ActiveTransfer) (r : Receiver) (n : Nat) : (w.nextRun a r n).port = w.port :=
  State.fixed_port (ChairView.nextRun_fixed w a r n)
@[simp] theorem ChairView.nextRun_pending (a : ActiveTransfer) (r : Receiver) (n : Nat) : (w.nextRun a r n).pending = w.pending :=
  State.fixed_pending (ChairView.nextRun_fixed w a r n)
@[simp] theorem ChairView.recover_fixed (a : ActiveTransfer) (r : Receiver) (n : Nat) : (w.recover a r n).fixed = w.fixed := by
  unfold ChairView.recover
  try dsimp only
  repeat' split
  all_goals first | rfl | (simp; done) | simp [State.fixed]

@[simp] theorem ChairView.recover_config (a : ActiveTransfer) (r : Receiver) (n : Nat) : (w.recover a r n).config = w.config :=
  State.fixed_config (ChairView.recover_fixed w a r n)
@[simp] theorem ChairView.recover_station (a : ActiveTransfer) (r : Receiver) (n : Nat) : (w.recover a r n).station = w.station :=
  State.fixed_station (ChairView.recover_fixed w a r n)
@[simp] theorem ChairView.recover_listenTimer (a : ActiveTransfer) (r : Receiver) (n : Nat) : (w.recover a r n).listenTimer = w.listenTimer :=
  State.fixed_listenTimer (ChairView.recover_fixed w a r n)
@[simp] theorem ChairView.recover_time (a : ActiveTransfer) (r : Receiver) (n : Nat) : (w.recover a r n).time = w.time :=
  State.fixed_time (ChairView.recover_fixed w a r n)
@[simp] theorem ChairView.recover_port (a : ActiveTransfer) (r : Receiver) (n : Nat) : (w.recover a r n).port = w.port :=
  State.fixed_port (ChairView.recover_fixed w a r n)
@[simp] theorem ChairView.recover_pending (a : ActiveTransfer) (r : Receiver) (n : Nat) : (w.recover a r n).pending = w.pending :=
  State.fixed_pending (ChairView.recover_fixed w a r n)
@[simp] theorem ChairView.judgeSegment_fixed (a : ActiveTransfer) (r : Receiver) (n : Nat) (ws : List Word) : (w.judgeSegment a r n ws).fixed = w.fixed := by
  unfold ChairView.judgeSegment
  try dsimp only
  repeat' split
  all_goals first | rfl | (simp; done) | simp [State.fixed]

@[simp] theorem ChairView.judgeSegment_config (a : ActiveTransfer) (r : Receiver) (n : Nat) (ws : List Word) : (w.judgeSegment a r n ws).config = w.config :=
  State.fixed_config (ChairView.judgeSegment_fixed w a r n ws)
@[simp] theorem ChairView.judgeSegment_station (a : ActiveTransfer) (r : Receiver) (n : Nat) (ws : List Word) : (w.judgeSegment a r n ws).station = w.station :=
  State.fixed_station (ChairView.judgeSegment_fixed w a r n ws)
@[simp] theorem ChairView.judgeSegment_listenTimer (a : ActiveTransfer) (r : Receiver) (n : Nat) (ws : List Word) : (w.judgeSegment a r n ws).listenTimer = w.listenTimer :=
  State.fixed_listenTimer (ChairView.judgeSegment_fixed w a r n ws)
@[simp] theorem ChairView.judgeSegment_time (a : ActiveTransfer) (r : Receiver) (n : Nat) (ws : List Word) : (w.judgeSegment a r n ws).time = w.time :=
  State.fixed_time (ChairView.judgeSegment_fixed w a r n ws)
@[simp] theorem ChairView.judgeSegment_port (a : ActiveTransfer) (r : Receiver) (n : Nat) (ws : List Word) : (w.judgeSegment a r n ws).port = w.port :=
  State.fixed_port (ChairView.judgeSegment_fixed w a r n ws)
@[simp] theorem ChairView.judgeSegment_pending (a : ActiveTransfer) (r : Receiver) (n : Nat) (ws : List Word) : (w.judgeSegment a r n ws).pending = w.pending :=
  State.fixed_pending (ChairView.judgeSegment_fixed w a r n ws)
@[simp] theorem ChairView.receiveSegment_fixed (a : ActiveTransfer) (r : Receiver) (n k : Nat) (ws : List Word) : (w.receiveSegment a r n k ws).fixed = w.fixed := by
  unfold ChairView.receiveSegment
  try dsimp only
  repeat' split
  all_goals first | rfl | (simp; done) | simp [State.fixed]

@[simp] theorem ChairView.receiveSegment_config (a : ActiveTransfer) (r : Receiver) (n k : Nat) (ws : List Word) : (w.receiveSegment a r n k ws).config = w.config :=
  State.fixed_config (ChairView.receiveSegment_fixed w a r n k ws)
@[simp] theorem ChairView.receiveSegment_station (a : ActiveTransfer) (r : Receiver) (n k : Nat) (ws : List Word) : (w.receiveSegment a r n k ws).station = w.station :=
  State.fixed_station (ChairView.receiveSegment_fixed w a r n k ws)
@[simp] theorem ChairView.receiveSegment_listenTimer (a : ActiveTransfer) (r : Receiver) (n k : Nat) (ws : List Word) : (w.receiveSegment a r n k ws).listenTimer = w.listenTimer :=
  State.fixed_listenTimer (ChairView.receiveSegment_fixed w a r n k ws)
@[simp] theorem ChairView.receiveSegment_time (a : ActiveTransfer) (r : Receiver) (n k : Nat) (ws : List Word) : (w.receiveSegment a r n k ws).time = w.time :=
  State.fixed_time (ChairView.receiveSegment_fixed w a r n k ws)
@[simp] theorem ChairView.receiveSegment_port (a : ActiveTransfer) (r : Receiver) (n k : Nat) (ws : List Word) : (w.receiveSegment a r n k ws).port = w.port :=
  State.fixed_port (ChairView.receiveSegment_fixed w a r n k ws)
@[simp] theorem ChairView.receiveSegment_pending (a : ActiveTransfer) (r : Receiver) (n k : Nat) (ws : List Word) : (w.receiveSegment a r n k ws).pending = w.pending :=
  State.fixed_pending (ChairView.receiveSegment_fixed w a r n k ws)
@[simp] theorem ChairView.sendAccept_fixed (a : ActiveTransfer) (r : Receiver) : (w.sendAccept a r).fixed = w.fixed := by
  unfold ChairView.sendAccept
  try dsimp only
  repeat' split
  all_goals first | rfl | (simp; done) | simp [State.fixed]

@[simp] theorem ChairView.sendAccept_config (a : ActiveTransfer) (r : Receiver) : (w.sendAccept a r).config = w.config :=
  State.fixed_config (ChairView.sendAccept_fixed w a r)
@[simp] theorem ChairView.sendAccept_station (a : ActiveTransfer) (r : Receiver) : (w.sendAccept a r).station = w.station :=
  State.fixed_station (ChairView.sendAccept_fixed w a r)
@[simp] theorem ChairView.sendAccept_listenTimer (a : ActiveTransfer) (r : Receiver) : (w.sendAccept a r).listenTimer = w.listenTimer :=
  State.fixed_listenTimer (ChairView.sendAccept_fixed w a r)
@[simp] theorem ChairView.sendAccept_time (a : ActiveTransfer) (r : Receiver) : (w.sendAccept a r).time = w.time :=
  State.fixed_time (ChairView.sendAccept_fixed w a r)
@[simp] theorem ChairView.sendAccept_port (a : ActiveTransfer) (r : Receiver) : (w.sendAccept a r).port = w.port :=
  State.fixed_port (ChairView.sendAccept_fixed w a r)
@[simp] theorem ChairView.sendAccept_pending (a : ActiveTransfer) (r : Receiver) : (w.sendAccept a r).pending = w.pending :=
  State.fixed_pending (ChairView.sendAccept_fixed w a r)
@[simp] theorem ChairView.receiveSum_fixed (a : ActiveTransfer) (r : Receiver) : (w.receiveSum a r).fixed = w.fixed := by
  unfold ChairView.receiveSum
  try dsimp only
  repeat' split
  all_goals first | rfl | (simp; done) | simp [State.fixed]

@[simp] theorem ChairView.receiveSum_config (a : ActiveTransfer) (r : Receiver) : (w.receiveSum a r).config = w.config :=
  State.fixed_config (ChairView.receiveSum_fixed w a r)
@[simp] theorem ChairView.receiveSum_station (a : ActiveTransfer) (r : Receiver) : (w.receiveSum a r).station = w.station :=
  State.fixed_station (ChairView.receiveSum_fixed w a r)
@[simp] theorem ChairView.receiveSum_listenTimer (a : ActiveTransfer) (r : Receiver) : (w.receiveSum a r).listenTimer = w.listenTimer :=
  State.fixed_listenTimer (ChairView.receiveSum_fixed w a r)
@[simp] theorem ChairView.receiveSum_time (a : ActiveTransfer) (r : Receiver) : (w.receiveSum a r).time = w.time :=
  State.fixed_time (ChairView.receiveSum_fixed w a r)
@[simp] theorem ChairView.receiveSum_port (a : ActiveTransfer) (r : Receiver) : (w.receiveSum a r).port = w.port :=
  State.fixed_port (ChairView.receiveSum_fixed w a r)
@[simp] theorem ChairView.receiveSum_pending (a : ActiveTransfer) (r : Receiver) : (w.receiveSum a r).pending = w.pending :=
  State.fixed_pending (ChairView.receiveSum_fixed w a r)
@[simp] theorem ChairView.receiveLag_fixed (a : ActiveTransfer) (r : Receiver) (n : Nat) : (w.receiveLag a r n).fixed = w.fixed := by
  unfold ChairView.receiveLag
  try dsimp only
  repeat' split
  all_goals first | rfl | (simp; done) | simp [State.fixed]

@[simp] theorem ChairView.receiveLag_config (a : ActiveTransfer) (r : Receiver) (n : Nat) : (w.receiveLag a r n).config = w.config :=
  State.fixed_config (ChairView.receiveLag_fixed w a r n)
@[simp] theorem ChairView.receiveLag_station (a : ActiveTransfer) (r : Receiver) (n : Nat) : (w.receiveLag a r n).station = w.station :=
  State.fixed_station (ChairView.receiveLag_fixed w a r n)
@[simp] theorem ChairView.receiveLag_listenTimer (a : ActiveTransfer) (r : Receiver) (n : Nat) : (w.receiveLag a r n).listenTimer = w.listenTimer :=
  State.fixed_listenTimer (ChairView.receiveLag_fixed w a r n)
@[simp] theorem ChairView.receiveLag_time (a : ActiveTransfer) (r : Receiver) (n : Nat) : (w.receiveLag a r n).time = w.time :=
  State.fixed_time (ChairView.receiveLag_fixed w a r n)
@[simp] theorem ChairView.receiveLag_port (a : ActiveTransfer) (r : Receiver) (n : Nat) : (w.receiveLag a r n).port = w.port :=
  State.fixed_port (ChairView.receiveLag_fixed w a r n)
@[simp] theorem ChairView.receiveLag_pending (a : ActiveTransfer) (r : Receiver) (n : Nat) : (w.receiveLag a r n).pending = w.pending :=
  State.fixed_pending (ChairView.receiveLag_fixed w a r n)
@[simp] theorem ChairView.pauseFor_fixed (a : ActiveTransfer) (r : Receiver) : (w.pauseFor a r).fixed = w.fixed := by
  unfold ChairView.pauseFor
  try dsimp only
  repeat' split
  all_goals first | rfl | (simp; done) | simp [State.fixed]

@[simp] theorem ChairView.pauseFor_config (a : ActiveTransfer) (r : Receiver) : (w.pauseFor a r).config = w.config :=
  State.fixed_config (ChairView.pauseFor_fixed w a r)
@[simp] theorem ChairView.pauseFor_station (a : ActiveTransfer) (r : Receiver) : (w.pauseFor a r).station = w.station :=
  State.fixed_station (ChairView.pauseFor_fixed w a r)
@[simp] theorem ChairView.pauseFor_listenTimer (a : ActiveTransfer) (r : Receiver) : (w.pauseFor a r).listenTimer = w.listenTimer :=
  State.fixed_listenTimer (ChairView.pauseFor_fixed w a r)
@[simp] theorem ChairView.pauseFor_time (a : ActiveTransfer) (r : Receiver) : (w.pauseFor a r).time = w.time :=
  State.fixed_time (ChairView.pauseFor_fixed w a r)
@[simp] theorem ChairView.pauseFor_port (a : ActiveTransfer) (r : Receiver) : (w.pauseFor a r).port = w.port :=
  State.fixed_port (ChairView.pauseFor_fixed w a r)
@[simp] theorem ChairView.pauseFor_pending (a : ActiveTransfer) (r : Receiver) : (w.pauseFor a r).pending = w.pending :=
  State.fixed_pending (ChairView.pauseFor_fixed w a r)
@[simp] theorem ChairView.liftPause_fixed (a : ActiveTransfer) (r : Receiver) : (w.liftPause a r).fixed = w.fixed := by
  unfold ChairView.liftPause
  try dsimp only
  repeat' split
  all_goals first | rfl | (simp; done) | simp [State.fixed]

@[simp] theorem ChairView.liftPause_config (a : ActiveTransfer) (r : Receiver) : (w.liftPause a r).config = w.config :=
  State.fixed_config (ChairView.liftPause_fixed w a r)
@[simp] theorem ChairView.liftPause_station (a : ActiveTransfer) (r : Receiver) : (w.liftPause a r).station = w.station :=
  State.fixed_station (ChairView.liftPause_fixed w a r)
@[simp] theorem ChairView.liftPause_listenTimer (a : ActiveTransfer) (r : Receiver) : (w.liftPause a r).listenTimer = w.listenTimer :=
  State.fixed_listenTimer (ChairView.liftPause_fixed w a r)
@[simp] theorem ChairView.liftPause_time (a : ActiveTransfer) (r : Receiver) : (w.liftPause a r).time = w.time :=
  State.fixed_time (ChairView.liftPause_fixed w a r)
@[simp] theorem ChairView.liftPause_port (a : ActiveTransfer) (r : Receiver) : (w.liftPause a r).port = w.port :=
  State.fixed_port (ChairView.liftPause_fixed w a r)
@[simp] theorem ChairView.liftPause_pending (a : ActiveTransfer) (r : Receiver) : (w.liftPause a r).pending = w.pending :=
  State.fixed_pending (ChairView.liftPause_fixed w a r)
@[simp] theorem ChairView.liftIfClear_fixed (a : ActiveTransfer) (r : Receiver) : (w.liftIfClear a r).fixed = w.fixed := by
  unfold ChairView.liftIfClear
  try dsimp only
  repeat' split
  all_goals first | rfl | (simp; done) | simp [State.fixed]

@[simp] theorem ChairView.liftIfClear_config (a : ActiveTransfer) (r : Receiver) : (w.liftIfClear a r).config = w.config :=
  State.fixed_config (ChairView.liftIfClear_fixed w a r)
@[simp] theorem ChairView.liftIfClear_station (a : ActiveTransfer) (r : Receiver) : (w.liftIfClear a r).station = w.station :=
  State.fixed_station (ChairView.liftIfClear_fixed w a r)
@[simp] theorem ChairView.liftIfClear_listenTimer (a : ActiveTransfer) (r : Receiver) : (w.liftIfClear a r).listenTimer = w.listenTimer :=
  State.fixed_listenTimer (ChairView.liftIfClear_fixed w a r)
@[simp] theorem ChairView.liftIfClear_time (a : ActiveTransfer) (r : Receiver) : (w.liftIfClear a r).time = w.time :=
  State.fixed_time (ChairView.liftIfClear_fixed w a r)
@[simp] theorem ChairView.liftIfClear_port (a : ActiveTransfer) (r : Receiver) : (w.liftIfClear a r).port = w.port :=
  State.fixed_port (ChairView.liftIfClear_fixed w a r)
@[simp] theorem ChairView.liftIfClear_pending (a : ActiveTransfer) (r : Receiver) : (w.liftIfClear a r).pending = w.pending :=
  State.fixed_pending (ChairView.liftIfClear_fixed w a r)
@[simp] theorem ChairView.fifoJoined_fixed (n : Nat) : (w.fifoJoined n).fixed = w.fixed := by
  unfold ChairView.fifoJoined
  try dsimp only
  repeat' split
  all_goals first | rfl | (simp; done) | simp [State.fixed]

@[simp] theorem ChairView.fifoJoined_config (n : Nat) : (w.fifoJoined n).config = w.config :=
  State.fixed_config (ChairView.fifoJoined_fixed w n)
@[simp] theorem ChairView.fifoJoined_station (n : Nat) : (w.fifoJoined n).station = w.station :=
  State.fixed_station (ChairView.fifoJoined_fixed w n)
@[simp] theorem ChairView.fifoJoined_listenTimer (n : Nat) : (w.fifoJoined n).listenTimer = w.listenTimer :=
  State.fixed_listenTimer (ChairView.fifoJoined_fixed w n)
@[simp] theorem ChairView.fifoJoined_time (n : Nat) : (w.fifoJoined n).time = w.time :=
  State.fixed_time (ChairView.fifoJoined_fixed w n)
@[simp] theorem ChairView.fifoJoined_port (n : Nat) : (w.fifoJoined n).port = w.port :=
  State.fixed_port (ChairView.fifoJoined_fixed w n)
@[simp] theorem ChairView.fifoJoined_pending (n : Nat) : (w.fifoJoined n).pending = w.pending :=
  State.fixed_pending (ChairView.fifoJoined_fixed w n)
@[simp] theorem ChairView.fifoLeft_fixed (n : Nat) : (w.fifoLeft n).fixed = w.fixed := by
  unfold ChairView.fifoLeft
  try dsimp only
  repeat' split
  all_goals first | rfl | (simp; done) | simp [State.fixed]

@[simp] theorem ChairView.fifoLeft_config (n : Nat) : (w.fifoLeft n).config = w.config :=
  State.fixed_config (ChairView.fifoLeft_fixed w n)
@[simp] theorem ChairView.fifoLeft_station (n : Nat) : (w.fifoLeft n).station = w.station :=
  State.fixed_station (ChairView.fifoLeft_fixed w n)
@[simp] theorem ChairView.fifoLeft_listenTimer (n : Nat) : (w.fifoLeft n).listenTimer = w.listenTimer :=
  State.fixed_listenTimer (ChairView.fifoLeft_fixed w n)
@[simp] theorem ChairView.fifoLeft_time (n : Nat) : (w.fifoLeft n).time = w.time :=
  State.fixed_time (ChairView.fifoLeft_fixed w n)
@[simp] theorem ChairView.fifoLeft_port (n : Nat) : (w.fifoLeft n).port = w.port :=
  State.fixed_port (ChairView.fifoLeft_fixed w n)
@[simp] theorem ChairView.fifoLeft_pending (n : Nat) : (w.fifoLeft n).pending = w.pending :=
  State.fixed_pending (ChairView.fifoLeft_fixed w n)
@[simp] theorem ChairView.settleArea_fixed (a : ActiveTransfer) (b : Bool) : (w.settleArea a b).fixed = w.fixed := by
  unfold ChairView.settleArea
  try dsimp only
  repeat' split
  all_goals first | rfl | (simp; done) | simp [State.fixed]

@[simp] theorem ChairView.settleArea_config (a : ActiveTransfer) (b : Bool) : (w.settleArea a b).config = w.config :=
  State.fixed_config (ChairView.settleArea_fixed w a b)
@[simp] theorem ChairView.settleArea_station (a : ActiveTransfer) (b : Bool) : (w.settleArea a b).station = w.station :=
  State.fixed_station (ChairView.settleArea_fixed w a b)
@[simp] theorem ChairView.settleArea_listenTimer (a : ActiveTransfer) (b : Bool) : (w.settleArea a b).listenTimer = w.listenTimer :=
  State.fixed_listenTimer (ChairView.settleArea_fixed w a b)
@[simp] theorem ChairView.settleArea_time (a : ActiveTransfer) (b : Bool) : (w.settleArea a b).time = w.time :=
  State.fixed_time (ChairView.settleArea_fixed w a b)
@[simp] theorem ChairView.settleArea_port (a : ActiveTransfer) (b : Bool) : (w.settleArea a b).port = w.port :=
  State.fixed_port (ChairView.settleArea_fixed w a b)
@[simp] theorem ChairView.settleArea_pending (a : ActiveTransfer) (b : Bool) : (w.settleArea a b).pending = w.pending :=
  State.fixed_pending (ChairView.settleArea_fixed w a b)
@[simp] theorem ChairView.takeUpPending_fixed : (w.takeUpPending).fixed = w.fixed := by
  unfold ChairView.takeUpPending
  try dsimp only
  repeat' split
  all_goals first | rfl | (simp; done) | simp [State.fixed]

@[simp] theorem ChairView.takeUpPending_config : (w.takeUpPending).config = w.config :=
  State.fixed_config (ChairView.takeUpPending_fixed w)
@[simp] theorem ChairView.takeUpPending_station : (w.takeUpPending).station = w.station :=
  State.fixed_station (ChairView.takeUpPending_fixed w)
@[simp] theorem ChairView.takeUpPending_listenTimer : (w.takeUpPending).listenTimer = w.listenTimer :=
  State.fixed_listenTimer (ChairView.takeUpPending_fixed w)
@[simp] theorem ChairView.takeUpPending_time : (w.takeUpPending).time = w.time :=
  State.fixed_time (ChairView.takeUpPending_fixed w)
@[simp] theorem ChairView.takeUpPending_port : (w.takeUpPending).port = w.port :=
  State.fixed_port (ChairView.takeUpPending_fixed w)
@[simp] theorem ChairView.takeUpPending_pending : (w.takeUpPending).pending = w.pending :=
  State.fixed_pending (ChairView.takeUpPending_fixed w)
@[simp] theorem ChairView.endActive_fixed (b : Bool) : (w.endActive b).fixed = w.fixed := by
  unfold ChairView.endActive
  try dsimp only
  repeat' split
  all_goals first | rfl | (simp; done) | simp [State.fixed]

@[simp] theorem ChairView.endActive_config (b : Bool) : (w.endActive b).config = w.config :=
  State.fixed_config (ChairView.endActive_fixed w b)
@[simp] theorem ChairView.endActive_station (b : Bool) : (w.endActive b).station = w.station :=
  State.fixed_station (ChairView.endActive_fixed w b)
@[simp] theorem ChairView.endActive_listenTimer (b : Bool) : (w.endActive b).listenTimer = w.listenTimer :=
  State.fixed_listenTimer (ChairView.endActive_fixed w b)
@[simp] theorem ChairView.endActive_time (b : Bool) : (w.endActive b).time = w.time :=
  State.fixed_time (ChairView.endActive_fixed w b)
@[simp] theorem ChairView.endActive_port (b : Bool) : (w.endActive b).port = w.port :=
  State.fixed_port (ChairView.endActive_fixed w b)
@[simp] theorem ChairView.endActive_pending (b : Bool) : (w.endActive b).pending = w.pending :=
  State.fixed_pending (ChairView.endActive_fixed w b)
@[simp] theorem ChairView.endSeatTransfer_fixed (i : Fin 4) (b : Bool) : (w.endSeatTransfer i b).fixed = w.fixed := by
  unfold ChairView.endSeatTransfer
  try dsimp only
  repeat' split
  all_goals first | rfl | (simp; done) | simp [State.fixed]

@[simp] theorem ChairView.endSeatTransfer_config (i : Fin 4) (b : Bool) : (w.endSeatTransfer i b).config = w.config :=
  State.fixed_config (ChairView.endSeatTransfer_fixed w i b)
@[simp] theorem ChairView.endSeatTransfer_station (i : Fin 4) (b : Bool) : (w.endSeatTransfer i b).station = w.station :=
  State.fixed_station (ChairView.endSeatTransfer_fixed w i b)
@[simp] theorem ChairView.endSeatTransfer_listenTimer (i : Fin 4) (b : Bool) : (w.endSeatTransfer i b).listenTimer = w.listenTimer :=
  State.fixed_listenTimer (ChairView.endSeatTransfer_fixed w i b)
@[simp] theorem ChairView.endSeatTransfer_time (i : Fin 4) (b : Bool) : (w.endSeatTransfer i b).time = w.time :=
  State.fixed_time (ChairView.endSeatTransfer_fixed w i b)
@[simp] theorem ChairView.endSeatTransfer_port (i : Fin 4) (b : Bool) : (w.endSeatTransfer i b).port = w.port :=
  State.fixed_port (ChairView.endSeatTransfer_fixed w i b)
@[simp] theorem ChairView.endSeatTransfer_pending (i : Fin 4) (b : Bool) : (w.endSeatTransfer i b).pending = w.pending :=
  State.fixed_pending (ChairView.endSeatTransfer_fixed w i b)
@[simp] theorem ChairView.engineHears_fixed (n k : Nat) (b : Bool) : (w.engineHears n k b).fixed = w.fixed := by
  unfold ChairView.engineHears
  try dsimp only
  repeat' split
  all_goals first | rfl | (simp; done) | simp [State.fixed]

@[simp] theorem ChairView.engineHears_config (n k : Nat) (b : Bool) : (w.engineHears n k b).config = w.config :=
  State.fixed_config (ChairView.engineHears_fixed w n k b)
@[simp] theorem ChairView.engineHears_station (n k : Nat) (b : Bool) : (w.engineHears n k b).station = w.station :=
  State.fixed_station (ChairView.engineHears_fixed w n k b)
@[simp] theorem ChairView.engineHears_listenTimer (n k : Nat) (b : Bool) : (w.engineHears n k b).listenTimer = w.listenTimer :=
  State.fixed_listenTimer (ChairView.engineHears_fixed w n k b)
@[simp] theorem ChairView.engineHears_time (n k : Nat) (b : Bool) : (w.engineHears n k b).time = w.time :=
  State.fixed_time (ChairView.engineHears_fixed w n k b)
@[simp] theorem ChairView.engineHears_port (n k : Nat) (b : Bool) : (w.engineHears n k b).port = w.port :=
  State.fixed_port (ChairView.engineHears_fixed w n k b)
@[simp] theorem ChairView.engineHears_pending (n k : Nat) (b : Bool) : (w.engineHears n k b).pending = w.pending :=
  State.fixed_pending (ChairView.engineHears_fixed w n k b)
@[simp] theorem ChairView.notify_fixed (i : Fin 4) (k : NoticeKind) (r : Reason) (n : Nat) : (w.notify i k r n).fixed = w.fixed := by
  unfold ChairView.notify
  try dsimp only
  repeat' split
  all_goals first | rfl | (simp; done) | simp [State.fixed]

@[simp] theorem ChairView.notify_config (i : Fin 4) (k : NoticeKind) (r : Reason) (n : Nat) : (w.notify i k r n).config = w.config :=
  State.fixed_config (ChairView.notify_fixed w i k r n)
@[simp] theorem ChairView.notify_station (i : Fin 4) (k : NoticeKind) (r : Reason) (n : Nat) : (w.notify i k r n).station = w.station :=
  State.fixed_station (ChairView.notify_fixed w i k r n)
@[simp] theorem ChairView.notify_listenTimer (i : Fin 4) (k : NoticeKind) (r : Reason) (n : Nat) : (w.notify i k r n).listenTimer = w.listenTimer :=
  State.fixed_listenTimer (ChairView.notify_fixed w i k r n)
@[simp] theorem ChairView.notify_time (i : Fin 4) (k : NoticeKind) (r : Reason) (n : Nat) : (w.notify i k r n).time = w.time :=
  State.fixed_time (ChairView.notify_fixed w i k r n)
@[simp] theorem ChairView.notify_port (i : Fin 4) (k : NoticeKind) (r : Reason) (n : Nat) : (w.notify i k r n).port = w.port :=
  State.fixed_port (ChairView.notify_fixed w i k r n)
@[simp] theorem ChairView.notify_pending (i : Fin 4) (k : NoticeKind) (r : Reason) (n : Nat) : (w.notify i k r n).pending = w.pending :=
  State.fixed_pending (ChairView.notify_fixed w i k r n)
@[simp] theorem ChairView.removeRecord_fixed (n : Nat) : (w.removeRecord n).fixed = w.fixed := by
  unfold ChairView.removeRecord
  try dsimp only
  repeat' split
  all_goals first | rfl | (simp; done) | simp [State.fixed]

@[simp] theorem ChairView.removeRecord_config (n : Nat) : (w.removeRecord n).config = w.config :=
  State.fixed_config (ChairView.removeRecord_fixed w n)
@[simp] theorem ChairView.removeRecord_station (n : Nat) : (w.removeRecord n).station = w.station :=
  State.fixed_station (ChairView.removeRecord_fixed w n)
@[simp] theorem ChairView.removeRecord_listenTimer (n : Nat) : (w.removeRecord n).listenTimer = w.listenTimer :=
  State.fixed_listenTimer (ChairView.removeRecord_fixed w n)
@[simp] theorem ChairView.removeRecord_time (n : Nat) : (w.removeRecord n).time = w.time :=
  State.fixed_time (ChairView.removeRecord_fixed w n)
@[simp] theorem ChairView.removeRecord_port (n : Nat) : (w.removeRecord n).port = w.port :=
  State.fixed_port (ChairView.removeRecord_fixed w n)
@[simp] theorem ChairView.removeRecord_pending (n : Nat) : (w.removeRecord n).pending = w.pending :=
  State.fixed_pending (ChairView.removeRecord_fixed w n)
@[simp] theorem ChairView.dropAged_fixed (n : Nat) : (w.dropAged n).fixed = w.fixed := by
  unfold ChairView.dropAged
  try dsimp only
  repeat' split
  all_goals first | rfl | (simp; done) | simp [State.fixed]

@[simp] theorem ChairView.dropAged_config (n : Nat) : (w.dropAged n).config = w.config :=
  State.fixed_config (ChairView.dropAged_fixed w n)
@[simp] theorem ChairView.dropAged_station (n : Nat) : (w.dropAged n).station = w.station :=
  State.fixed_station (ChairView.dropAged_fixed w n)
@[simp] theorem ChairView.dropAged_listenTimer (n : Nat) : (w.dropAged n).listenTimer = w.listenTimer :=
  State.fixed_listenTimer (ChairView.dropAged_fixed w n)
@[simp] theorem ChairView.dropAged_time (n : Nat) : (w.dropAged n).time = w.time :=
  State.fixed_time (ChairView.dropAged_fixed w n)
@[simp] theorem ChairView.dropAged_port (n : Nat) : (w.dropAged n).port = w.port :=
  State.fixed_port (ChairView.dropAged_fixed w n)
@[simp] theorem ChairView.dropAged_pending (n : Nat) : (w.dropAged n).pending = w.pending :=
  State.fixed_pending (ChairView.dropAged_fixed w n)
@[simp] theorem ChairView.hear_fixed (r : FleetRecord) : (w.hear r).fixed = w.fixed := by
  unfold ChairView.hear
  try dsimp only
  repeat' split
  all_goals first | rfl | (simp; done) | simp [State.fixed]

@[simp] theorem ChairView.hear_config (r : FleetRecord) : (w.hear r).config = w.config :=
  State.fixed_config (ChairView.hear_fixed w r)
@[simp] theorem ChairView.hear_station (r : FleetRecord) : (w.hear r).station = w.station :=
  State.fixed_station (ChairView.hear_fixed w r)
@[simp] theorem ChairView.hear_listenTimer (r : FleetRecord) : (w.hear r).listenTimer = w.listenTimer :=
  State.fixed_listenTimer (ChairView.hear_fixed w r)
@[simp] theorem ChairView.hear_time (r : FleetRecord) : (w.hear r).time = w.time :=
  State.fixed_time (ChairView.hear_fixed w r)
@[simp] theorem ChairView.hear_port (r : FleetRecord) : (w.hear r).port = w.port :=
  State.fixed_port (ChairView.hear_fixed w r)
@[simp] theorem ChairView.hear_pending (r : FleetRecord) : (w.hear r).pending = w.pending :=
  State.fixed_pending (ChairView.hear_fixed w r)
@[simp] theorem ChairView.hearBeacon_fixed (r : FleetRecord) : (w.hearBeacon r).fixed = w.fixed := by
  unfold ChairView.hearBeacon
  try dsimp only
  repeat' split
  all_goals first | rfl | (simp; done) | simp [State.fixed]

@[simp] theorem ChairView.hearBeacon_config (r : FleetRecord) : (w.hearBeacon r).config = w.config :=
  State.fixed_config (ChairView.hearBeacon_fixed w r)
@[simp] theorem ChairView.hearBeacon_station (r : FleetRecord) : (w.hearBeacon r).station = w.station :=
  State.fixed_station (ChairView.hearBeacon_fixed w r)
@[simp] theorem ChairView.hearBeacon_listenTimer (r : FleetRecord) : (w.hearBeacon r).listenTimer = w.listenTimer :=
  State.fixed_listenTimer (ChairView.hearBeacon_fixed w r)
@[simp] theorem ChairView.hearBeacon_time (r : FleetRecord) : (w.hearBeacon r).time = w.time :=
  State.fixed_time (ChairView.hearBeacon_fixed w r)
@[simp] theorem ChairView.hearBeacon_port (r : FleetRecord) : (w.hearBeacon r).port = w.port :=
  State.fixed_port (ChairView.hearBeacon_fixed w r)
@[simp] theorem ChairView.hearBeacon_pending (r : FleetRecord) : (w.hearBeacon r).pending = w.pending :=
  State.fixed_pending (ChairView.hearBeacon_fixed w r)
@[simp] theorem ChairView.terms_fixed (n : Nat) (r : FleetRecord) :
    (w.terms n r).2.2.fixed = w.fixed := rfl

@[simp] theorem ChairView.terms_config (n : Nat) (r : FleetRecord) : (w.terms n r).2.2.config = w.config :=
  State.fixed_config (ChairView.terms_fixed w n r)
@[simp] theorem ChairView.terms_station (n : Nat) (r : FleetRecord) : (w.terms n r).2.2.station = w.station :=
  State.fixed_station (ChairView.terms_fixed w n r)
@[simp] theorem ChairView.terms_listenTimer (n : Nat) (r : FleetRecord) : (w.terms n r).2.2.listenTimer = w.listenTimer :=
  State.fixed_listenTimer (ChairView.terms_fixed w n r)
@[simp] theorem ChairView.terms_time (n : Nat) (r : FleetRecord) : (w.terms n r).2.2.time = w.time :=
  State.fixed_time (ChairView.terms_fixed w n r)
@[simp] theorem ChairView.terms_port (n : Nat) (r : FleetRecord) : (w.terms n r).2.2.port = w.port :=
  State.fixed_port (ChairView.terms_fixed w n r)
@[simp] theorem ChairView.terms_pending (n : Nat) (r : FleetRecord) : (w.terms n r).2.2.pending = w.pending :=
  State.fixed_pending (ChairView.terms_fixed w n r)
@[simp] theorem ChairView.faultNotice_fixed (i : Fin 4) (f : Option ZoneFault) (z : ZoneCode) : (w.faultNotice i f z).fixed = w.fixed := by
  unfold ChairView.faultNotice
  try dsimp only
  repeat' split
  all_goals first | rfl | (simp; done) | simp [State.fixed]

@[simp] theorem ChairView.faultNotice_config (i : Fin 4) (f : Option ZoneFault) (z : ZoneCode) : (w.faultNotice i f z).config = w.config :=
  State.fixed_config (ChairView.faultNotice_fixed w i f z)
@[simp] theorem ChairView.faultNotice_station (i : Fin 4) (f : Option ZoneFault) (z : ZoneCode) : (w.faultNotice i f z).station = w.station :=
  State.fixed_station (ChairView.faultNotice_fixed w i f z)
@[simp] theorem ChairView.faultNotice_listenTimer (i : Fin 4) (f : Option ZoneFault) (z : ZoneCode) : (w.faultNotice i f z).listenTimer = w.listenTimer :=
  State.fixed_listenTimer (ChairView.faultNotice_fixed w i f z)
@[simp] theorem ChairView.faultNotice_time (i : Fin 4) (f : Option ZoneFault) (z : ZoneCode) : (w.faultNotice i f z).time = w.time :=
  State.fixed_time (ChairView.faultNotice_fixed w i f z)
@[simp] theorem ChairView.faultNotice_port (i : Fin 4) (f : Option ZoneFault) (z : ZoneCode) : (w.faultNotice i f z).port = w.port :=
  State.fixed_port (ChairView.faultNotice_fixed w i f z)
@[simp] theorem ChairView.faultNotice_pending (i : Fin 4) (f : Option ZoneFault) (z : ZoneCode) : (w.faultNotice i f z).pending = w.pending :=
  State.fixed_pending (ChairView.faultNotice_fixed w i f z)
@[simp] theorem ChairView.makeFree_fixed (i : Fin 4) : (w.makeFree i).fixed = w.fixed := by
  unfold ChairView.makeFree
  try dsimp only
  repeat' split
  all_goals first | rfl | (simp; done) | simp [State.fixed]

@[simp] theorem ChairView.makeFree_config (i : Fin 4) : (w.makeFree i).config = w.config :=
  State.fixed_config (ChairView.makeFree_fixed w i)
@[simp] theorem ChairView.makeFree_station (i : Fin 4) : (w.makeFree i).station = w.station :=
  State.fixed_station (ChairView.makeFree_fixed w i)
@[simp] theorem ChairView.makeFree_listenTimer (i : Fin 4) : (w.makeFree i).listenTimer = w.listenTimer :=
  State.fixed_listenTimer (ChairView.makeFree_fixed w i)
@[simp] theorem ChairView.makeFree_time (i : Fin 4) : (w.makeFree i).time = w.time :=
  State.fixed_time (ChairView.makeFree_fixed w i)
@[simp] theorem ChairView.makeFree_port (i : Fin 4) : (w.makeFree i).port = w.port :=
  State.fixed_port (ChairView.makeFree_fixed w i)
@[simp] theorem ChairView.makeFree_pending (i : Fin 4) : (w.makeFree i).pending = w.pending :=
  State.fixed_pending (ChairView.makeFree_fixed w i)
@[simp] theorem ChairView.freeWith_fixed (i : Fin 4) (k : NoticeKind) (r : Reason) (n : Nat) : (w.freeWith i k r n).fixed = w.fixed := by
  unfold ChairView.freeWith
  try dsimp only
  repeat' split
  all_goals first | rfl | (simp; done) | simp [State.fixed]

@[simp] theorem ChairView.freeWith_config (i : Fin 4) (k : NoticeKind) (r : Reason) (n : Nat) : (w.freeWith i k r n).config = w.config :=
  State.fixed_config (ChairView.freeWith_fixed w i k r n)
@[simp] theorem ChairView.freeWith_station (i : Fin 4) (k : NoticeKind) (r : Reason) (n : Nat) : (w.freeWith i k r n).station = w.station :=
  State.fixed_station (ChairView.freeWith_fixed w i k r n)
@[simp] theorem ChairView.freeWith_listenTimer (i : Fin 4) (k : NoticeKind) (r : Reason) (n : Nat) : (w.freeWith i k r n).listenTimer = w.listenTimer :=
  State.fixed_listenTimer (ChairView.freeWith_fixed w i k r n)
@[simp] theorem ChairView.freeWith_time (i : Fin 4) (k : NoticeKind) (r : Reason) (n : Nat) : (w.freeWith i k r n).time = w.time :=
  State.fixed_time (ChairView.freeWith_fixed w i k r n)
@[simp] theorem ChairView.freeWith_port (i : Fin 4) (k : NoticeKind) (r : Reason) (n : Nat) : (w.freeWith i k r n).port = w.port :=
  State.fixed_port (ChairView.freeWith_fixed w i k r n)
@[simp] theorem ChairView.freeWith_pending (i : Fin 4) (k : NoticeKind) (r : Reason) (n : Nat) : (w.freeWith i k r n).pending = w.pending :=
  State.fixed_pending (ChairView.freeWith_fixed w i k r n)
@[simp] theorem ChairView.granted_fixed (i : Fin 4) (n : Nat) : (w.granted i n).fixed = w.fixed := by
  unfold ChairView.granted
  try dsimp only
  repeat' split
  all_goals first | rfl | (simp; done) | simp [State.fixed]

@[simp] theorem ChairView.granted_config (i : Fin 4) (n : Nat) : (w.granted i n).config = w.config :=
  State.fixed_config (ChairView.granted_fixed w i n)
@[simp] theorem ChairView.granted_station (i : Fin 4) (n : Nat) : (w.granted i n).station = w.station :=
  State.fixed_station (ChairView.granted_fixed w i n)
@[simp] theorem ChairView.granted_listenTimer (i : Fin 4) (n : Nat) : (w.granted i n).listenTimer = w.listenTimer :=
  State.fixed_listenTimer (ChairView.granted_fixed w i n)
@[simp] theorem ChairView.granted_time (i : Fin 4) (n : Nat) : (w.granted i n).time = w.time :=
  State.fixed_time (ChairView.granted_fixed w i n)
@[simp] theorem ChairView.granted_port (i : Fin 4) (n : Nat) : (w.granted i n).port = w.port :=
  State.fixed_port (ChairView.granted_fixed w i n)
@[simp] theorem ChairView.granted_pending (i : Fin 4) (n : Nat) : (w.granted i n).pending = w.pending :=
  State.fixed_pending (ChairView.granted_fixed w i n)
@[simp] theorem ChairView.readmit_fixed (i : Fin 4) : (w.readmit i).fixed = w.fixed := by
  unfold ChairView.readmit
  try dsimp only
  repeat' split
  all_goals first | rfl | (simp; done) | simp [State.fixed]

@[simp] theorem ChairView.readmit_config (i : Fin 4) : (w.readmit i).config = w.config :=
  State.fixed_config (ChairView.readmit_fixed w i)
@[simp] theorem ChairView.readmit_station (i : Fin 4) : (w.readmit i).station = w.station :=
  State.fixed_station (ChairView.readmit_fixed w i)
@[simp] theorem ChairView.readmit_listenTimer (i : Fin 4) : (w.readmit i).listenTimer = w.listenTimer :=
  State.fixed_listenTimer (ChairView.readmit_fixed w i)
@[simp] theorem ChairView.readmit_time (i : Fin 4) : (w.readmit i).time = w.time :=
  State.fixed_time (ChairView.readmit_fixed w i)
@[simp] theorem ChairView.readmit_port (i : Fin 4) : (w.readmit i).port = w.port :=
  State.fixed_port (ChairView.readmit_fixed w i)
@[simp] theorem ChairView.readmit_pending (i : Fin 4) : (w.readmit i).pending = w.pending :=
  State.fixed_pending (ChairView.readmit_fixed w i)
@[simp] theorem ChairView.readmitAll_fixed (p : ChairView → Fin 4 → Bool) :
    (w.readmitAll p).fixed = w.fixed := by
  have h : ∀ (l : List (Fin 4)) (v : ChairView),
      (l.foldl (fun w i => if (w.seat i).drives && p w i then w.readmit i else w) v).fixed = v.fixed := by
    intro l
    induction l with
    | nil => intro v; rfl
    | cons i l ih => intro v; rw [List.foldl_cons, ih]; split <;> simp
  exact h _ _

@[simp] theorem ChairView.readmitAll_config (p : ChairView → Fin 4 → Bool) : (w.readmitAll p).config = w.config :=
  State.fixed_config (ChairView.readmitAll_fixed w p)
@[simp] theorem ChairView.readmitAll_station (p : ChairView → Fin 4 → Bool) : (w.readmitAll p).station = w.station :=
  State.fixed_station (ChairView.readmitAll_fixed w p)
@[simp] theorem ChairView.readmitAll_listenTimer (p : ChairView → Fin 4 → Bool) : (w.readmitAll p).listenTimer = w.listenTimer :=
  State.fixed_listenTimer (ChairView.readmitAll_fixed w p)
@[simp] theorem ChairView.readmitAll_time (p : ChairView → Fin 4 → Bool) : (w.readmitAll p).time = w.time :=
  State.fixed_time (ChairView.readmitAll_fixed w p)
@[simp] theorem ChairView.readmitAll_port (p : ChairView → Fin 4 → Bool) : (w.readmitAll p).port = w.port :=
  State.fixed_port (ChairView.readmitAll_fixed w p)
@[simp] theorem ChairView.readmitAll_pending (p : ChairView → Fin 4 → Bool) : (w.readmitAll p).pending = w.pending :=
  State.fixed_pending (ChairView.readmitAll_fixed w p)
@[simp] theorem ChairView.repeatAdmit_fixed (i : Fin 4) (z : ZoneCode) : (w.repeatAdmit i z).fixed = w.fixed := by
  unfold ChairView.repeatAdmit
  try dsimp only
  repeat' split
  all_goals first | rfl | (simp; done) | simp [State.fixed]

@[simp] theorem ChairView.repeatAdmit_config (i : Fin 4) (z : ZoneCode) : (w.repeatAdmit i z).config = w.config :=
  State.fixed_config (ChairView.repeatAdmit_fixed w i z)
@[simp] theorem ChairView.repeatAdmit_station (i : Fin 4) (z : ZoneCode) : (w.repeatAdmit i z).station = w.station :=
  State.fixed_station (ChairView.repeatAdmit_fixed w i z)
@[simp] theorem ChairView.repeatAdmit_listenTimer (i : Fin 4) (z : ZoneCode) : (w.repeatAdmit i z).listenTimer = w.listenTimer :=
  State.fixed_listenTimer (ChairView.repeatAdmit_fixed w i z)
@[simp] theorem ChairView.repeatAdmit_time (i : Fin 4) (z : ZoneCode) : (w.repeatAdmit i z).time = w.time :=
  State.fixed_time (ChairView.repeatAdmit_fixed w i z)
@[simp] theorem ChairView.repeatAdmit_port (i : Fin 4) (z : ZoneCode) : (w.repeatAdmit i z).port = w.port :=
  State.fixed_port (ChairView.repeatAdmit_fixed w i z)
@[simp] theorem ChairView.repeatAdmit_pending (i : Fin 4) (z : ZoneCode) : (w.repeatAdmit i z).pending = w.pending :=
  State.fixed_pending (ChairView.repeatAdmit_fixed w i z)
@[simp] theorem ChairView.readmitAt_fixed (i : Fin 4) (z : ZoneCode) : (w.readmitAt i z).fixed = w.fixed := by
  unfold ChairView.readmitAt
  try dsimp only
  repeat' split
  all_goals first | rfl | (simp; done) | simp [State.fixed]

@[simp] theorem ChairView.readmitAt_config (i : Fin 4) (z : ZoneCode) : (w.readmitAt i z).config = w.config :=
  State.fixed_config (ChairView.readmitAt_fixed w i z)
@[simp] theorem ChairView.readmitAt_station (i : Fin 4) (z : ZoneCode) : (w.readmitAt i z).station = w.station :=
  State.fixed_station (ChairView.readmitAt_fixed w i z)
@[simp] theorem ChairView.readmitAt_listenTimer (i : Fin 4) (z : ZoneCode) : (w.readmitAt i z).listenTimer = w.listenTimer :=
  State.fixed_listenTimer (ChairView.readmitAt_fixed w i z)
@[simp] theorem ChairView.readmitAt_time (i : Fin 4) (z : ZoneCode) : (w.readmitAt i z).time = w.time :=
  State.fixed_time (ChairView.readmitAt_fixed w i z)
@[simp] theorem ChairView.readmitAt_port (i : Fin 4) (z : ZoneCode) : (w.readmitAt i z).port = w.port :=
  State.fixed_port (ChairView.readmitAt_fixed w i z)
@[simp] theorem ChairView.readmitAt_pending (i : Fin 4) (z : ZoneCode) : (w.readmitAt i z).pending = w.pending :=
  State.fixed_pending (ChairView.readmitAt_fixed w i z)
@[simp] theorem ChairView.keepSending_fixed (i : Fin 4) (r : Reason) : (w.keepSending i r).fixed = w.fixed := by
  unfold ChairView.keepSending
  try dsimp only
  repeat' split
  all_goals first | rfl | (simp; done) | simp [State.fixed]

@[simp] theorem ChairView.keepSending_config (i : Fin 4) (r : Reason) : (w.keepSending i r).config = w.config :=
  State.fixed_config (ChairView.keepSending_fixed w i r)
@[simp] theorem ChairView.keepSending_station (i : Fin 4) (r : Reason) : (w.keepSending i r).station = w.station :=
  State.fixed_station (ChairView.keepSending_fixed w i r)
@[simp] theorem ChairView.keepSending_listenTimer (i : Fin 4) (r : Reason) : (w.keepSending i r).listenTimer = w.listenTimer :=
  State.fixed_listenTimer (ChairView.keepSending_fixed w i r)
@[simp] theorem ChairView.keepSending_time (i : Fin 4) (r : Reason) : (w.keepSending i r).time = w.time :=
  State.fixed_time (ChairView.keepSending_fixed w i r)
@[simp] theorem ChairView.keepSending_port (i : Fin 4) (r : Reason) : (w.keepSending i r).port = w.port :=
  State.fixed_port (ChairView.keepSending_fixed w i r)
@[simp] theorem ChairView.keepSending_pending (i : Fin 4) (r : Reason) : (w.keepSending i r).pending = w.pending :=
  State.fixed_pending (ChairView.keepSending_fixed w i r)
@[simp] theorem ChairView.committed_fixed (i : Fin 4) (n : Nat) : (w.committed i n).fixed = w.fixed := by
  unfold ChairView.committed
  try dsimp only
  repeat' split
  all_goals first | rfl | (simp; done) | simp [State.fixed]

@[simp] theorem ChairView.committed_config (i : Fin 4) (n : Nat) : (w.committed i n).config = w.config :=
  State.fixed_config (ChairView.committed_fixed w i n)
@[simp] theorem ChairView.committed_station (i : Fin 4) (n : Nat) : (w.committed i n).station = w.station :=
  State.fixed_station (ChairView.committed_fixed w i n)
@[simp] theorem ChairView.committed_listenTimer (i : Fin 4) (n : Nat) : (w.committed i n).listenTimer = w.listenTimer :=
  State.fixed_listenTimer (ChairView.committed_fixed w i n)
@[simp] theorem ChairView.committed_time (i : Fin 4) (n : Nat) : (w.committed i n).time = w.time :=
  State.fixed_time (ChairView.committed_fixed w i n)
@[simp] theorem ChairView.committed_port (i : Fin 4) (n : Nat) : (w.committed i n).port = w.port :=
  State.fixed_port (ChairView.committed_fixed w i n)
@[simp] theorem ChairView.committed_pending (i : Fin 4) (n : Nat) : (w.committed i n).pending = w.pending :=
  State.fixed_pending (ChairView.committed_fixed w i n)
@[simp] theorem ChairView.holdingBeacon_fixed (i : Fin 4) (r : FleetRecord) : (w.holdingBeacon i r).fixed = w.fixed := by
  unfold ChairView.holdingBeacon
  try dsimp only
  repeat' split
  all_goals first | rfl | (simp; done) | simp [State.fixed]

@[simp] theorem ChairView.holdingBeacon_config (i : Fin 4) (r : FleetRecord) : (w.holdingBeacon i r).config = w.config :=
  State.fixed_config (ChairView.holdingBeacon_fixed w i r)
@[simp] theorem ChairView.holdingBeacon_station (i : Fin 4) (r : FleetRecord) : (w.holdingBeacon i r).station = w.station :=
  State.fixed_station (ChairView.holdingBeacon_fixed w i r)
@[simp] theorem ChairView.holdingBeacon_listenTimer (i : Fin 4) (r : FleetRecord) : (w.holdingBeacon i r).listenTimer = w.listenTimer :=
  State.fixed_listenTimer (ChairView.holdingBeacon_fixed w i r)
@[simp] theorem ChairView.holdingBeacon_time (i : Fin 4) (r : FleetRecord) : (w.holdingBeacon i r).time = w.time :=
  State.fixed_time (ChairView.holdingBeacon_fixed w i r)
@[simp] theorem ChairView.holdingBeacon_port (i : Fin 4) (r : FleetRecord) : (w.holdingBeacon i r).port = w.port :=
  State.fixed_port (ChairView.holdingBeacon_fixed w i r)
@[simp] theorem ChairView.holdingBeacon_pending (i : Fin 4) (r : FleetRecord) : (w.holdingBeacon i r).pending = w.pending :=
  State.fixed_pending (ChairView.holdingBeacon_fixed w i r)
@[simp] theorem ChairView.sendingBeacon_fixed (i : Fin 4) (r : FleetRecord) : (w.sendingBeacon i r).fixed = w.fixed := by
  unfold ChairView.sendingBeacon
  try dsimp only
  repeat' split
  all_goals first | rfl | (simp; done) | simp [State.fixed]

@[simp] theorem ChairView.sendingBeacon_config (i : Fin 4) (r : FleetRecord) : (w.sendingBeacon i r).config = w.config :=
  State.fixed_config (ChairView.sendingBeacon_fixed w i r)
@[simp] theorem ChairView.sendingBeacon_station (i : Fin 4) (r : FleetRecord) : (w.sendingBeacon i r).station = w.station :=
  State.fixed_station (ChairView.sendingBeacon_fixed w i r)
@[simp] theorem ChairView.sendingBeacon_listenTimer (i : Fin 4) (r : FleetRecord) : (w.sendingBeacon i r).listenTimer = w.listenTimer :=
  State.fixed_listenTimer (ChairView.sendingBeacon_fixed w i r)
@[simp] theorem ChairView.sendingBeacon_time (i : Fin 4) (r : FleetRecord) : (w.sendingBeacon i r).time = w.time :=
  State.fixed_time (ChairView.sendingBeacon_fixed w i r)
@[simp] theorem ChairView.sendingBeacon_port (i : Fin 4) (r : FleetRecord) : (w.sendingBeacon i r).port = w.port :=
  State.fixed_port (ChairView.sendingBeacon_fixed w i r)
@[simp] theorem ChairView.sendingBeacon_pending (i : Fin 4) (r : FleetRecord) : (w.sendingBeacon i r).pending = w.pending :=
  State.fixed_pending (ChairView.sendingBeacon_fixed w i r)
@[simp] theorem ChairView.receivingBeacon_fixed (i : Fin 4) (r : FleetRecord) : (w.receivingBeacon i r).fixed = w.fixed := by
  unfold ChairView.receivingBeacon
  try dsimp only
  repeat' split
  all_goals first | rfl | (simp; done) | simp [State.fixed]

@[simp] theorem ChairView.receivingBeacon_config (i : Fin 4) (r : FleetRecord) : (w.receivingBeacon i r).config = w.config :=
  State.fixed_config (ChairView.receivingBeacon_fixed w i r)
@[simp] theorem ChairView.receivingBeacon_station (i : Fin 4) (r : FleetRecord) : (w.receivingBeacon i r).station = w.station :=
  State.fixed_station (ChairView.receivingBeacon_fixed w i r)
@[simp] theorem ChairView.receivingBeacon_listenTimer (i : Fin 4) (r : FleetRecord) : (w.receivingBeacon i r).listenTimer = w.listenTimer :=
  State.fixed_listenTimer (ChairView.receivingBeacon_fixed w i r)
@[simp] theorem ChairView.receivingBeacon_time (i : Fin 4) (r : FleetRecord) : (w.receivingBeacon i r).time = w.time :=
  State.fixed_time (ChairView.receivingBeacon_fixed w i r)
@[simp] theorem ChairView.receivingBeacon_port (i : Fin 4) (r : FleetRecord) : (w.receivingBeacon i r).port = w.port :=
  State.fixed_port (ChairView.receivingBeacon_fixed w i r)
@[simp] theorem ChairView.receivingBeacon_pending (i : Fin 4) (r : FleetRecord) : (w.receivingBeacon i r).pending = w.pending :=
  State.fixed_pending (ChairView.receivingBeacon_fixed w i r)
@[simp] theorem ChairView.seatBeacon_fixed (i : Fin 4) (r : FleetRecord) : (w.seatBeacon i r).fixed = w.fixed := by
  unfold ChairView.seatBeacon
  try dsimp only
  repeat' split
  all_goals first | rfl | (simp; done) | simp [State.fixed]

@[simp] theorem ChairView.seatBeacon_config (i : Fin 4) (r : FleetRecord) : (w.seatBeacon i r).config = w.config :=
  State.fixed_config (ChairView.seatBeacon_fixed w i r)
@[simp] theorem ChairView.seatBeacon_station (i : Fin 4) (r : FleetRecord) : (w.seatBeacon i r).station = w.station :=
  State.fixed_station (ChairView.seatBeacon_fixed w i r)
@[simp] theorem ChairView.seatBeacon_listenTimer (i : Fin 4) (r : FleetRecord) : (w.seatBeacon i r).listenTimer = w.listenTimer :=
  State.fixed_listenTimer (ChairView.seatBeacon_fixed w i r)
@[simp] theorem ChairView.seatBeacon_time (i : Fin 4) (r : FleetRecord) : (w.seatBeacon i r).time = w.time :=
  State.fixed_time (ChairView.seatBeacon_fixed w i r)
@[simp] theorem ChairView.seatBeacon_port (i : Fin 4) (r : FleetRecord) : (w.seatBeacon i r).port = w.port :=
  State.fixed_port (ChairView.seatBeacon_fixed w i r)
@[simp] theorem ChairView.seatBeacon_pending (i : Fin 4) (r : FleetRecord) : (w.seatBeacon i r).pending = w.pending :=
  State.fixed_pending (ChairView.seatBeacon_fixed w i r)
@[simp] theorem ChairView.takeBeacon_fixed (r : FleetRecord) : (w.takeBeacon r).fixed = w.fixed := by
  unfold ChairView.takeBeacon
  try dsimp only
  repeat' split
  all_goals first | rfl | (simp; done) | simp [State.fixed]

@[simp] theorem ChairView.takeBeacon_config (r : FleetRecord) : (w.takeBeacon r).config = w.config :=
  State.fixed_config (ChairView.takeBeacon_fixed w r)
@[simp] theorem ChairView.takeBeacon_station (r : FleetRecord) : (w.takeBeacon r).station = w.station :=
  State.fixed_station (ChairView.takeBeacon_fixed w r)
@[simp] theorem ChairView.takeBeacon_listenTimer (r : FleetRecord) : (w.takeBeacon r).listenTimer = w.listenTimer :=
  State.fixed_listenTimer (ChairView.takeBeacon_fixed w r)
@[simp] theorem ChairView.takeBeacon_time (r : FleetRecord) : (w.takeBeacon r).time = w.time :=
  State.fixed_time (ChairView.takeBeacon_fixed w r)
@[simp] theorem ChairView.takeBeacon_port (r : FleetRecord) : (w.takeBeacon r).port = w.port :=
  State.fixed_port (ChairView.takeBeacon_fixed w r)
@[simp] theorem ChairView.takeBeacon_pending (r : FleetRecord) : (w.takeBeacon r).pending = w.pending :=
  State.fixed_pending (ChairView.takeBeacon_fixed w r)
@[simp] theorem ChairView.takeGrant_fixed (n k : Nat) : (w.takeGrant n k).fixed = w.fixed := by
  unfold ChairView.takeGrant
  try dsimp only
  repeat' split
  all_goals first | rfl | (simp; done) | simp [State.fixed]

@[simp] theorem ChairView.takeGrant_config (n k : Nat) : (w.takeGrant n k).config = w.config :=
  State.fixed_config (ChairView.takeGrant_fixed w n k)
@[simp] theorem ChairView.takeGrant_station (n k : Nat) : (w.takeGrant n k).station = w.station :=
  State.fixed_station (ChairView.takeGrant_fixed w n k)
@[simp] theorem ChairView.takeGrant_listenTimer (n k : Nat) : (w.takeGrant n k).listenTimer = w.listenTimer :=
  State.fixed_listenTimer (ChairView.takeGrant_fixed w n k)
@[simp] theorem ChairView.takeGrant_time (n k : Nat) : (w.takeGrant n k).time = w.time :=
  State.fixed_time (ChairView.takeGrant_fixed w n k)
@[simp] theorem ChairView.takeGrant_port (n k : Nat) : (w.takeGrant n k).port = w.port :=
  State.fixed_port (ChairView.takeGrant_fixed w n k)
@[simp] theorem ChairView.takeGrant_pending (n k : Nat) : (w.takeGrant n k).pending = w.pending :=
  State.fixed_pending (ChairView.takeGrant_fixed w n k)
@[simp] theorem ChairView.takeRefuse_fixed (n : Nat) (r : Reason) : (w.takeRefuse n r).fixed = w.fixed := by
  unfold ChairView.takeRefuse
  try dsimp only
  repeat' split
  all_goals first | rfl | (simp; done) | simp [State.fixed]

@[simp] theorem ChairView.takeRefuse_config (n : Nat) (r : Reason) : (w.takeRefuse n r).config = w.config :=
  State.fixed_config (ChairView.takeRefuse_fixed w n r)
@[simp] theorem ChairView.takeRefuse_station (n : Nat) (r : Reason) : (w.takeRefuse n r).station = w.station :=
  State.fixed_station (ChairView.takeRefuse_fixed w n r)
@[simp] theorem ChairView.takeRefuse_listenTimer (n : Nat) (r : Reason) : (w.takeRefuse n r).listenTimer = w.listenTimer :=
  State.fixed_listenTimer (ChairView.takeRefuse_fixed w n r)
@[simp] theorem ChairView.takeRefuse_time (n : Nat) (r : Reason) : (w.takeRefuse n r).time = w.time :=
  State.fixed_time (ChairView.takeRefuse_fixed w n r)
@[simp] theorem ChairView.takeRefuse_port (n : Nat) (r : Reason) : (w.takeRefuse n r).port = w.port :=
  State.fixed_port (ChairView.takeRefuse_fixed w n r)
@[simp] theorem ChairView.takeRefuse_pending (n : Nat) (r : Reason) : (w.takeRefuse n r).pending = w.pending :=
  State.fixed_pending (ChairView.takeRefuse_fixed w n r)
@[simp] theorem ChairView.askerPropose_fixed (i : Fin 4) (n : Nat) : (w.askerPropose i n).fixed = w.fixed := by
  unfold ChairView.askerPropose
  try dsimp only
  repeat' split
  all_goals first | rfl | (simp; done) | simp [State.fixed]

@[simp] theorem ChairView.askerPropose_config (i : Fin 4) (n : Nat) : (w.askerPropose i n).config = w.config :=
  State.fixed_config (ChairView.askerPropose_fixed w i n)
@[simp] theorem ChairView.askerPropose_station (i : Fin 4) (n : Nat) : (w.askerPropose i n).station = w.station :=
  State.fixed_station (ChairView.askerPropose_fixed w i n)
@[simp] theorem ChairView.askerPropose_listenTimer (i : Fin 4) (n : Nat) : (w.askerPropose i n).listenTimer = w.listenTimer :=
  State.fixed_listenTimer (ChairView.askerPropose_fixed w i n)
@[simp] theorem ChairView.askerPropose_time (i : Fin 4) (n : Nat) : (w.askerPropose i n).time = w.time :=
  State.fixed_time (ChairView.askerPropose_fixed w i n)
@[simp] theorem ChairView.askerPropose_port (i : Fin 4) (n : Nat) : (w.askerPropose i n).port = w.port :=
  State.fixed_port (ChairView.askerPropose_fixed w i n)
@[simp] theorem ChairView.askerPropose_pending (i : Fin 4) (n : Nat) : (w.askerPropose i n).pending = w.pending :=
  State.fixed_pending (ChairView.askerPropose_fixed w i n)
@[simp] theorem ChairView.controllerPropose_fixed (i : Fin 4) (n k : Nat) : (w.controllerPropose i n k).fixed = w.fixed := by
  unfold ChairView.controllerPropose
  try dsimp only
  repeat' split
  all_goals first | rfl | (simp; done) | simp [State.fixed]

@[simp] theorem ChairView.controllerPropose_config (i : Fin 4) (n k : Nat) : (w.controllerPropose i n k).config = w.config :=
  State.fixed_config (ChairView.controllerPropose_fixed w i n k)
@[simp] theorem ChairView.controllerPropose_station (i : Fin 4) (n k : Nat) : (w.controllerPropose i n k).station = w.station :=
  State.fixed_station (ChairView.controllerPropose_fixed w i n k)
@[simp] theorem ChairView.controllerPropose_listenTimer (i : Fin 4) (n k : Nat) : (w.controllerPropose i n k).listenTimer = w.listenTimer :=
  State.fixed_listenTimer (ChairView.controllerPropose_fixed w i n k)
@[simp] theorem ChairView.controllerPropose_time (i : Fin 4) (n k : Nat) : (w.controllerPropose i n k).time = w.time :=
  State.fixed_time (ChairView.controllerPropose_fixed w i n k)
@[simp] theorem ChairView.controllerPropose_port (i : Fin 4) (n k : Nat) : (w.controllerPropose i n k).port = w.port :=
  State.fixed_port (ChairView.controllerPropose_fixed w i n k)
@[simp] theorem ChairView.controllerPropose_pending (i : Fin 4) (n k : Nat) : (w.controllerPropose i n k).pending = w.pending :=
  State.fixed_pending (ChairView.controllerPropose_fixed w i n k)
@[simp] theorem ChairView.takePropose_fixed (n k l m : Nat) : (w.takePropose n k l m).fixed = w.fixed := by
  unfold ChairView.takePropose
  try dsimp only
  repeat' split
  all_goals first | rfl | (simp; done) | simp [State.fixed]

@[simp] theorem ChairView.takePropose_config (n k l m : Nat) : (w.takePropose n k l m).config = w.config :=
  State.fixed_config (ChairView.takePropose_fixed w n k l m)
@[simp] theorem ChairView.takePropose_station (n k l m : Nat) : (w.takePropose n k l m).station = w.station :=
  State.fixed_station (ChairView.takePropose_fixed w n k l m)
@[simp] theorem ChairView.takePropose_listenTimer (n k l m : Nat) : (w.takePropose n k l m).listenTimer = w.listenTimer :=
  State.fixed_listenTimer (ChairView.takePropose_fixed w n k l m)
@[simp] theorem ChairView.takePropose_time (n k l m : Nat) : (w.takePropose n k l m).time = w.time :=
  State.fixed_time (ChairView.takePropose_fixed w n k l m)
@[simp] theorem ChairView.takePropose_port (n k l m : Nat) : (w.takePropose n k l m).port = w.port :=
  State.fixed_port (ChairView.takePropose_fixed w n k l m)
@[simp] theorem ChairView.takePropose_pending (n k l m : Nat) : (w.takePropose n k l m).pending = w.pending :=
  State.fixed_pending (ChairView.takePropose_fixed w n k l m)
@[simp] theorem ChairView.openAsSender_fixed (n k l m : Nat) : (w.openAsSender n k l m).fixed = w.fixed := by
  unfold ChairView.openAsSender
  try dsimp only
  repeat' split
  all_goals first | rfl | (simp; done) | simp [State.fixed]

@[simp] theorem ChairView.openAsSender_config (n k l m : Nat) : (w.openAsSender n k l m).config = w.config :=
  State.fixed_config (ChairView.openAsSender_fixed w n k l m)
@[simp] theorem ChairView.openAsSender_station (n k l m : Nat) : (w.openAsSender n k l m).station = w.station :=
  State.fixed_station (ChairView.openAsSender_fixed w n k l m)
@[simp] theorem ChairView.openAsSender_listenTimer (n k l m : Nat) : (w.openAsSender n k l m).listenTimer = w.listenTimer :=
  State.fixed_listenTimer (ChairView.openAsSender_fixed w n k l m)
@[simp] theorem ChairView.openAsSender_time (n k l m : Nat) : (w.openAsSender n k l m).time = w.time :=
  State.fixed_time (ChairView.openAsSender_fixed w n k l m)
@[simp] theorem ChairView.openAsSender_port (n k l m : Nat) : (w.openAsSender n k l m).port = w.port :=
  State.fixed_port (ChairView.openAsSender_fixed w n k l m)
@[simp] theorem ChairView.openAsSender_pending (n k l m : Nat) : (w.openAsSender n k l m).pending = w.pending :=
  State.fixed_pending (ChairView.openAsSender_fixed w n k l m)
@[simp] theorem ChairView.openAsReceiver_fixed (n k l m : Nat) : (w.openAsReceiver n k l m).fixed = w.fixed := by
  unfold ChairView.openAsReceiver
  try dsimp only
  repeat' split
  all_goals first | rfl | (simp; done) | simp [State.fixed]

@[simp] theorem ChairView.openAsReceiver_config (n k l m : Nat) : (w.openAsReceiver n k l m).config = w.config :=
  State.fixed_config (ChairView.openAsReceiver_fixed w n k l m)
@[simp] theorem ChairView.openAsReceiver_station (n k l m : Nat) : (w.openAsReceiver n k l m).station = w.station :=
  State.fixed_station (ChairView.openAsReceiver_fixed w n k l m)
@[simp] theorem ChairView.openAsReceiver_listenTimer (n k l m : Nat) : (w.openAsReceiver n k l m).listenTimer = w.listenTimer :=
  State.fixed_listenTimer (ChairView.openAsReceiver_fixed w n k l m)
@[simp] theorem ChairView.openAsReceiver_time (n k l m : Nat) : (w.openAsReceiver n k l m).time = w.time :=
  State.fixed_time (ChairView.openAsReceiver_fixed w n k l m)
@[simp] theorem ChairView.openAsReceiver_port (n k l m : Nat) : (w.openAsReceiver n k l m).port = w.port :=
  State.fixed_port (ChairView.openAsReceiver_fixed w n k l m)
@[simp] theorem ChairView.openAsReceiver_pending (n k l m : Nat) : (w.openAsReceiver n k l m).pending = w.pending :=
  State.fixed_pending (ChairView.openAsReceiver_fixed w n k l m)
@[simp] theorem ChairView.takeOpen_fixed (n k l m o : Nat) : (w.takeOpen n k l m o).fixed = w.fixed := by
  unfold ChairView.takeOpen
  try dsimp only
  repeat' split
  all_goals first | rfl | (simp; done) | simp [State.fixed]

@[simp] theorem ChairView.takeOpen_config (n k l m o : Nat) : (w.takeOpen n k l m o).config = w.config :=
  State.fixed_config (ChairView.takeOpen_fixed w n k l m o)
@[simp] theorem ChairView.takeOpen_station (n k l m o : Nat) : (w.takeOpen n k l m o).station = w.station :=
  State.fixed_station (ChairView.takeOpen_fixed w n k l m o)
@[simp] theorem ChairView.takeOpen_listenTimer (n k l m o : Nat) : (w.takeOpen n k l m o).listenTimer = w.listenTimer :=
  State.fixed_listenTimer (ChairView.takeOpen_fixed w n k l m o)
@[simp] theorem ChairView.takeOpen_time (n k l m o : Nat) : (w.takeOpen n k l m o).time = w.time :=
  State.fixed_time (ChairView.takeOpen_fixed w n k l m o)
@[simp] theorem ChairView.takeOpen_port (n k l m o : Nat) : (w.takeOpen n k l m o).port = w.port :=
  State.fixed_port (ChairView.takeOpen_fixed w n k l m o)
@[simp] theorem ChairView.takeOpen_pending (n k l m o : Nat) : (w.takeOpen n k l m o).pending = w.pending :=
  State.fixed_pending (ChairView.takeOpen_fixed w n k l m o)
@[simp] theorem ChairView.seatCommit_fixed (i : Fin 4) (n k l : Nat) : (w.seatCommit i n k l).fixed = w.fixed := by
  unfold ChairView.seatCommit
  try dsimp only
  repeat' split
  all_goals first | rfl | (simp; done) | simp [State.fixed]

@[simp] theorem ChairView.seatCommit_config (i : Fin 4) (n k l : Nat) : (w.seatCommit i n k l).config = w.config :=
  State.fixed_config (ChairView.seatCommit_fixed w i n k l)
@[simp] theorem ChairView.seatCommit_station (i : Fin 4) (n k l : Nat) : (w.seatCommit i n k l).station = w.station :=
  State.fixed_station (ChairView.seatCommit_fixed w i n k l)
@[simp] theorem ChairView.seatCommit_listenTimer (i : Fin 4) (n k l : Nat) : (w.seatCommit i n k l).listenTimer = w.listenTimer :=
  State.fixed_listenTimer (ChairView.seatCommit_fixed w i n k l)
@[simp] theorem ChairView.seatCommit_time (i : Fin 4) (n k l : Nat) : (w.seatCommit i n k l).time = w.time :=
  State.fixed_time (ChairView.seatCommit_fixed w i n k l)
@[simp] theorem ChairView.seatCommit_port (i : Fin 4) (n k l : Nat) : (w.seatCommit i n k l).port = w.port :=
  State.fixed_port (ChairView.seatCommit_fixed w i n k l)
@[simp] theorem ChairView.seatCommit_pending (i : Fin 4) (n k l : Nat) : (w.seatCommit i n k l).pending = w.pending :=
  State.fixed_pending (ChairView.seatCommit_fixed w i n k l)
@[simp] theorem ChairView.takeCommit_fixed (n k l m : Nat) : (w.takeCommit n k l m).fixed = w.fixed := by
  unfold ChairView.takeCommit
  try dsimp only
  repeat' split
  all_goals first | rfl | (simp; done) | simp [State.fixed]

@[simp] theorem ChairView.takeCommit_config (n k l m : Nat) : (w.takeCommit n k l m).config = w.config :=
  State.fixed_config (ChairView.takeCommit_fixed w n k l m)
@[simp] theorem ChairView.takeCommit_station (n k l m : Nat) : (w.takeCommit n k l m).station = w.station :=
  State.fixed_station (ChairView.takeCommit_fixed w n k l m)
@[simp] theorem ChairView.takeCommit_listenTimer (n k l m : Nat) : (w.takeCommit n k l m).listenTimer = w.listenTimer :=
  State.fixed_listenTimer (ChairView.takeCommit_fixed w n k l m)
@[simp] theorem ChairView.takeCommit_time (n k l m : Nat) : (w.takeCommit n k l m).time = w.time :=
  State.fixed_time (ChairView.takeCommit_fixed w n k l m)
@[simp] theorem ChairView.takeCommit_port (n k l m : Nat) : (w.takeCommit n k l m).port = w.port :=
  State.fixed_port (ChairView.takeCommit_fixed w n k l m)
@[simp] theorem ChairView.takeCommit_pending (n k l m : Nat) : (w.takeCommit n k l m).pending = w.pending :=
  State.fixed_pending (ChairView.takeCommit_fixed w n k l m)
@[simp] theorem ChairView.seatAbort_fixed (i : Fin 4) (n : Nat) (r : Reason) (k : Nat) : (w.seatAbort i n r k).fixed = w.fixed := by
  unfold ChairView.seatAbort
  try dsimp only
  repeat' split
  all_goals first | rfl | (simp; done) | simp [State.fixed]

@[simp] theorem ChairView.seatAbort_config (i : Fin 4) (n : Nat) (r : Reason) (k : Nat) : (w.seatAbort i n r k).config = w.config :=
  State.fixed_config (ChairView.seatAbort_fixed w i n r k)
@[simp] theorem ChairView.seatAbort_station (i : Fin 4) (n : Nat) (r : Reason) (k : Nat) : (w.seatAbort i n r k).station = w.station :=
  State.fixed_station (ChairView.seatAbort_fixed w i n r k)
@[simp] theorem ChairView.seatAbort_listenTimer (i : Fin 4) (n : Nat) (r : Reason) (k : Nat) : (w.seatAbort i n r k).listenTimer = w.listenTimer :=
  State.fixed_listenTimer (ChairView.seatAbort_fixed w i n r k)
@[simp] theorem ChairView.seatAbort_time (i : Fin 4) (n : Nat) (r : Reason) (k : Nat) : (w.seatAbort i n r k).time = w.time :=
  State.fixed_time (ChairView.seatAbort_fixed w i n r k)
@[simp] theorem ChairView.seatAbort_port (i : Fin 4) (n : Nat) (r : Reason) (k : Nat) : (w.seatAbort i n r k).port = w.port :=
  State.fixed_port (ChairView.seatAbort_fixed w i n r k)
@[simp] theorem ChairView.seatAbort_pending (i : Fin 4) (n : Nat) (r : Reason) (k : Nat) : (w.seatAbort i n r k).pending = w.pending :=
  State.fixed_pending (ChairView.seatAbort_fixed w i n r k)
@[simp] theorem ChairView.takeAbort_fixed (n k : Nat) (r : Reason) (l : Nat) : (w.takeAbort n k r l).fixed = w.fixed := by
  unfold ChairView.takeAbort
  try dsimp only
  repeat' split
  all_goals first | rfl | (simp; done) | simp [State.fixed]

@[simp] theorem ChairView.takeAbort_config (n k : Nat) (r : Reason) (l : Nat) : (w.takeAbort n k r l).config = w.config :=
  State.fixed_config (ChairView.takeAbort_fixed w n k r l)
@[simp] theorem ChairView.takeAbort_station (n k : Nat) (r : Reason) (l : Nat) : (w.takeAbort n k r l).station = w.station :=
  State.fixed_station (ChairView.takeAbort_fixed w n k r l)
@[simp] theorem ChairView.takeAbort_listenTimer (n k : Nat) (r : Reason) (l : Nat) : (w.takeAbort n k r l).listenTimer = w.listenTimer :=
  State.fixed_listenTimer (ChairView.takeAbort_fixed w n k r l)
@[simp] theorem ChairView.takeAbort_time (n k : Nat) (r : Reason) (l : Nat) : (w.takeAbort n k r l).time = w.time :=
  State.fixed_time (ChairView.takeAbort_fixed w n k r l)
@[simp] theorem ChairView.takeAbort_port (n k : Nat) (r : Reason) (l : Nat) : (w.takeAbort n k r l).port = w.port :=
  State.fixed_port (ChairView.takeAbort_fixed w n k r l)
@[simp] theorem ChairView.takeAbort_pending (n k : Nat) (r : Reason) (l : Nat) : (w.takeAbort n k r l).pending = w.pending :=
  State.fixed_pending (ChairView.takeAbort_fixed w n k r l)
@[simp] theorem ChairView.driveSeat_fixed (i : Fin 4) : (w.driveSeat i).fixed = w.fixed := by
  unfold ChairView.driveSeat
  try dsimp only
  repeat' split
  all_goals first | rfl | (simp; done) | simp [State.fixed]

@[simp] theorem ChairView.driveSeat_config (i : Fin 4) : (w.driveSeat i).config = w.config :=
  State.fixed_config (ChairView.driveSeat_fixed w i)
@[simp] theorem ChairView.driveSeat_station (i : Fin 4) : (w.driveSeat i).station = w.station :=
  State.fixed_station (ChairView.driveSeat_fixed w i)
@[simp] theorem ChairView.driveSeat_listenTimer (i : Fin 4) : (w.driveSeat i).listenTimer = w.listenTimer :=
  State.fixed_listenTimer (ChairView.driveSeat_fixed w i)
@[simp] theorem ChairView.driveSeat_time (i : Fin 4) : (w.driveSeat i).time = w.time :=
  State.fixed_time (ChairView.driveSeat_fixed w i)
@[simp] theorem ChairView.driveSeat_port (i : Fin 4) : (w.driveSeat i).port = w.port :=
  State.fixed_port (ChairView.driveSeat_fixed w i)
@[simp] theorem ChairView.driveSeat_pending (i : Fin 4) : (w.driveSeat i).pending = w.pending :=
  State.fixed_pending (ChairView.driveSeat_fixed w i)
@[simp] theorem ChairView.driveAll_fixed : w.driveAll.fixed = w.fixed := by
  have h : ∀ (l : List (Fin 4)) (v : ChairView),
      (l.foldl (fun w i => if (w.seat i).drives then w.driveSeat i else w) v).fixed = v.fixed := by
    intro l
    induction l with
    | nil => intro v; rfl
    | cons i l ih => intro v; rw [List.foldl_cons, ih]; split <;> simp
  exact h _ _

@[simp] theorem ChairView.driveAll_config : w.driveAll.config = w.config :=
  State.fixed_config (ChairView.driveAll_fixed w)
@[simp] theorem ChairView.driveAll_station : w.driveAll.station = w.station :=
  State.fixed_station (ChairView.driveAll_fixed w)
@[simp] theorem ChairView.driveAll_listenTimer : w.driveAll.listenTimer = w.listenTimer :=
  State.fixed_listenTimer (ChairView.driveAll_fixed w)
@[simp] theorem ChairView.driveAll_time : w.driveAll.time = w.time :=
  State.fixed_time (ChairView.driveAll_fixed w)
@[simp] theorem ChairView.driveAll_port : w.driveAll.port = w.port :=
  State.fixed_port (ChairView.driveAll_fixed w)
@[simp] theorem ChairView.driveAll_pending : w.driveAll.pending = w.pending :=
  State.fixed_pending (ChairView.driveAll_fixed w)
@[simp] theorem ChairView.goOnline_fixed : (w.goOnline).fixed = w.fixed := by
  unfold ChairView.goOnline
  try dsimp only
  repeat' split
  all_goals first | rfl | (simp; done) | simp [State.fixed]

@[simp] theorem ChairView.goOnline_config : (w.goOnline).config = w.config :=
  State.fixed_config (ChairView.goOnline_fixed w)
@[simp] theorem ChairView.goOnline_station : (w.goOnline).station = w.station :=
  State.fixed_station (ChairView.goOnline_fixed w)
@[simp] theorem ChairView.goOnline_listenTimer : (w.goOnline).listenTimer = w.listenTimer :=
  State.fixed_listenTimer (ChairView.goOnline_fixed w)
@[simp] theorem ChairView.goOnline_time : (w.goOnline).time = w.time :=
  State.fixed_time (ChairView.goOnline_fixed w)
@[simp] theorem ChairView.goOnline_port : (w.goOnline).port = w.port :=
  State.fixed_port (ChairView.goOnline_fixed w)
@[simp] theorem ChairView.goOnline_pending : (w.goOnline).pending = w.pending :=
  State.fixed_pending (ChairView.goOnline_fixed w)
@[simp] theorem ChairView.restartDrive_fixed : (w.restartDrive).fixed = w.fixed := by
  unfold ChairView.restartDrive
  try dsimp only
  repeat' split
  all_goals first | rfl | (simp; done) | simp [State.fixed]

@[simp] theorem ChairView.restartDrive_config : (w.restartDrive).config = w.config :=
  State.fixed_config (ChairView.restartDrive_fixed w)
@[simp] theorem ChairView.restartDrive_station : (w.restartDrive).station = w.station :=
  State.fixed_station (ChairView.restartDrive_fixed w)
@[simp] theorem ChairView.restartDrive_listenTimer : (w.restartDrive).listenTimer = w.listenTimer :=
  State.fixed_listenTimer (ChairView.restartDrive_fixed w)
@[simp] theorem ChairView.restartDrive_time : (w.restartDrive).time = w.time :=
  State.fixed_time (ChairView.restartDrive_fixed w)
@[simp] theorem ChairView.restartDrive_port : (w.restartDrive).port = w.port :=
  State.fixed_port (ChairView.restartDrive_fixed w)
@[simp] theorem ChairView.restartDrive_pending : (w.restartDrive).pending = w.pending :=
  State.fixed_pending (ChairView.restartDrive_fixed w)
@[simp] theorem ChairView.repeatAsk_fixed (i : Fin 4) : (w.repeatAsk i).fixed = w.fixed := by
  unfold ChairView.repeatAsk
  try dsimp only
  repeat' split
  all_goals first | rfl | (simp; done) | simp [State.fixed]

@[simp] theorem ChairView.repeatAsk_config (i : Fin 4) : (w.repeatAsk i).config = w.config :=
  State.fixed_config (ChairView.repeatAsk_fixed w i)
@[simp] theorem ChairView.repeatAsk_station (i : Fin 4) : (w.repeatAsk i).station = w.station :=
  State.fixed_station (ChairView.repeatAsk_fixed w i)
@[simp] theorem ChairView.repeatAsk_listenTimer (i : Fin 4) : (w.repeatAsk i).listenTimer = w.listenTimer :=
  State.fixed_listenTimer (ChairView.repeatAsk_fixed w i)
@[simp] theorem ChairView.repeatAsk_time (i : Fin 4) : (w.repeatAsk i).time = w.time :=
  State.fixed_time (ChairView.repeatAsk_fixed w i)
@[simp] theorem ChairView.repeatAsk_port (i : Fin 4) : (w.repeatAsk i).port = w.port :=
  State.fixed_port (ChairView.repeatAsk_fixed w i)
@[simp] theorem ChairView.repeatAsk_pending (i : Fin 4) : (w.repeatAsk i).pending = w.pending :=
  State.fixed_pending (ChairView.repeatAsk_fixed w i)
@[simp] theorem ChairView.endProposalRecord_fixed (i : Fin 4) (n : Nat) : (w.endProposalRecord i n).fixed = w.fixed := by
  unfold ChairView.endProposalRecord
  try dsimp only
  repeat' split
  all_goals first | rfl | (simp; done) | simp [State.fixed]

@[simp] theorem ChairView.endProposalRecord_config (i : Fin 4) (n : Nat) : (w.endProposalRecord i n).config = w.config :=
  State.fixed_config (ChairView.endProposalRecord_fixed w i n)
@[simp] theorem ChairView.endProposalRecord_station (i : Fin 4) (n : Nat) : (w.endProposalRecord i n).station = w.station :=
  State.fixed_station (ChairView.endProposalRecord_fixed w i n)
@[simp] theorem ChairView.endProposalRecord_listenTimer (i : Fin 4) (n : Nat) : (w.endProposalRecord i n).listenTimer = w.listenTimer :=
  State.fixed_listenTimer (ChairView.endProposalRecord_fixed w i n)
@[simp] theorem ChairView.endProposalRecord_time (i : Fin 4) (n : Nat) : (w.endProposalRecord i n).time = w.time :=
  State.fixed_time (ChairView.endProposalRecord_fixed w i n)
@[simp] theorem ChairView.endProposalRecord_port (i : Fin 4) (n : Nat) : (w.endProposalRecord i n).port = w.port :=
  State.fixed_port (ChairView.endProposalRecord_fixed w i n)
@[simp] theorem ChairView.endProposalRecord_pending (i : Fin 4) (n : Nat) : (w.endProposalRecord i n).pending = w.pending :=
  State.fixed_pending (ChairView.endProposalRecord_fixed w i n)
@[simp] theorem ChairView.abandon_fixed (i : Fin 4) (r : Reason) : (w.abandon i r).fixed = w.fixed := by
  unfold ChairView.abandon
  try dsimp only
  repeat' split
  all_goals first | rfl | (simp; done) | simp [State.fixed]

@[simp] theorem ChairView.abandon_config (i : Fin 4) (r : Reason) : (w.abandon i r).config = w.config :=
  State.fixed_config (ChairView.abandon_fixed w i r)
@[simp] theorem ChairView.abandon_station (i : Fin 4) (r : Reason) : (w.abandon i r).station = w.station :=
  State.fixed_station (ChairView.abandon_fixed w i r)
@[simp] theorem ChairView.abandon_listenTimer (i : Fin 4) (r : Reason) : (w.abandon i r).listenTimer = w.listenTimer :=
  State.fixed_listenTimer (ChairView.abandon_fixed w i r)
@[simp] theorem ChairView.abandon_time (i : Fin 4) (r : Reason) : (w.abandon i r).time = w.time :=
  State.fixed_time (ChairView.abandon_fixed w i r)
@[simp] theorem ChairView.abandon_port (i : Fin 4) (r : Reason) : (w.abandon i r).port = w.port :=
  State.fixed_port (ChairView.abandon_fixed w i r)
@[simp] theorem ChairView.abandon_pending (i : Fin 4) (r : Reason) : (w.abandon i r).pending = w.pending :=
  State.fixed_pending (ChairView.abandon_fixed w i r)

end

end Sys2Proof.Machine
end

