-- ==== Sys2Proof/Laws/Ops.lean ====
section
/-!
SUPPORT. Laws/Ops.lean: for each shared operation one lemma that says what it does: the addressed buffers,
a host command refused or taken, a frame taken by a role's blocks, a notice raised, a frame offered, the
gate recomputed.
-/
namespace Sys2Proof.Machine

/-! ### The sizes and fixed times as numbers -/

theorem transmitDepth_eq : Config.transmitDepth = 8 := rfl
theorem segmentDepth_eq : Config.segmentDepth = 3 := rfl
theorem receiveDepth_eq : Config.receiveDepth = 8 := rfl
theorem noticeDepth_eq : Config.noticeDepth = 32 := rfl
theorem cacheDepth_eq : Config.cacheDepth = 8 := rfl
theorem fleetDepth_eq : Config.fleetDepth = 32 := rfl
theorem areaWords_eq : Config.areaWords = 384 := rfl
theorem contextLeast_eq : Config.contextLeast = 8 := rfl
theorem speedMost_eq : Config.speedMost = 250 := rfl
theorem allStations_eq : Config.allStations = 63 := rfl
theorem stationMost_eq : Config.stationMost = 60 := rfl
theorem listenPeriod_eq : Config.listenPeriod = 1000 := rfl
theorem collisionMost_eq : Config.collisionMost = 8 := rfl
theorem lagMost_eq : Config.lagMost = 5 := rfl
theorem pauseAllowance_eq : Config.pauseAllowance = 3 := rfl
theorem pressureSet_eq : Config.pressureSet = 6 := rfl
theorem pressureClear_eq : Config.pressureClear = 2 := rfl

/-! ### Addressed buffers: read after write, and the canonical form kept (log 21) -/

section Stores
variable {α : Type} [DecidableEq α] {d : α}

/-- Every address of a buffer above `lo` is above `lo`. -/
theorem storeAbove_lt {lo : Option Nat} {m : Store α} (h : storeAbove d lo m = true) {k : Nat} {v : α}
    (hm : (k, v) ∈ m) : ∀ l ∈ lo, l < k := by
  induction m generalizing lo with
  | nil => cases hm
  | cons x rest ih =>
    obtain ⟨k', v'⟩ := x
    simp only [storeAbove, Bool.and_eq_true, decide_eq_true_eq] at h
    rcases List.mem_cons.1 hm with e | hr
    · cases e; exact h.1.1
    · intro l hl
      exact lt_trans (h.1.1 l hl) (ih h.2 hr k' rfl)

/-- A canonical buffer holds no entry for an address below its first. -/
theorem storeRead_low {m : Store α} {k a : Nat} (h : storeAbove d (some k) m = true) (ha : a ≤ k) :
    storeRead d m a = d := by
  induction m generalizing k with
  | nil => rfl
  | cons x rest ih =>
    obtain ⟨k', v'⟩ := x
    simp only [storeAbove, Bool.and_eq_true, decide_eq_true_eq] at h
    have hk : k < k' := h.1.1 k rfl
    simp only [storeRead]
    rw [if_neg (by omega)]
    exact ih h.2 (by omega)

/-- What a write leaves to be read, at every address. -/
theorem storeRead_write {m : Store α} (h : storeWf d m = true) (a b : Nat) (v : α) :
    storeRead d (storeWrite d a v m) b = if b = a then v else storeRead d m b := by
  unfold storeWf at h
  generalize none = lo at h
  induction m generalizing lo with
  | nil =>
    simp only [storeWrite, storeRead]
    split
    · next hv => simp [storeRead, hv]
    · simp only [storeRead]; split
      · next e => simp [e]
      · next e => rw [if_neg (fun e' => e e'.symm)]
  | cons x rest ih =>
    obtain ⟨k, w⟩ := x
    simp only [storeAbove, Bool.and_eq_true, decide_eq_true_eq] at h
    simp only [storeWrite]
    by_cases h1 : a < k
    · simp only [h1, if_true]
      by_cases hv : v = d
      · simp only [hv, if_true]
        by_cases hb : b = a
        · subst hb
          simp only [if_true, storeRead]
          rw [if_neg (by omega)]
          exact storeRead_low h.2 (by omega)
        · simp [hb]
      · simp only [hv, if_false, storeRead]
        by_cases hb : b = a
        · subst hb; simp
        · simp [hb, Ne.symm hb]
    · simp only [h1, if_false]
      by_cases h2 : a = k
      · subst h2
        simp only [if_true]
        by_cases hv : v = d
        · simp only [hv, if_true, storeRead]
          by_cases hb : b = a
          · subst hb; simp [storeRead_low h.2 (le_refl _)]
          · simp [hb, Ne.symm hb]
        · simp only [hv, if_false, storeRead]
          by_cases hb : b = a
          · subst hb; simp
          · simp [hb, Ne.symm hb]
      · simp only [h2, if_false, storeRead]
        by_cases hb : k = b
        · subst hb; simp [Ne.symm h2]
        · simp only [hb, if_false]; exact ih (some k) h.2

/-- A write below nothing of the buffer keeps the canonical form. -/
theorem storeAbove_write {m : Store α} {lo : Option Nat} (h : storeAbove d lo m = true) (a : Nat) (v : α)
    (ha : ∀ l ∈ lo, l < a) : storeAbove d lo (storeWrite d a v m) = true := by
  induction m generalizing lo with
  | nil =>
    simp only [storeWrite]; split
    · rfl
    · next hv => simp [storeAbove, hv]; exact ha
  | cons x rest ih =>
    obtain ⟨k, w⟩ := x
    have h' := h
    simp only [storeAbove, Bool.and_eq_true, decide_eq_true_eq] at h
    simp only [storeWrite]
    by_cases h1 : a < k
    · simp only [h1, if_true]; split
      · exact h'
      · next hv =>
        simp only [storeAbove, Bool.and_eq_true, decide_eq_true_eq]
        exact ⟨⟨ha, hv⟩, ⟨by simpa using h1, h.1.2⟩, h.2⟩
    · simp only [h1, if_false]
      by_cases h2 : a = k
      · subst h2
        simp only [if_true]; split
        · cases rest with
          | nil => rfl
          | cons y ys =>
            obtain ⟨k2, w2⟩ := y
            have h3 := h.2
            simp only [storeAbove, Bool.and_eq_true, decide_eq_true_eq] at h3 ⊢
            exact ⟨⟨fun l hl => lt_trans (ha l hl) (h3.1.1 a rfl), h3.1.2⟩, h3.2⟩
        · next hv =>
          simp only [storeAbove, Bool.and_eq_true, decide_eq_true_eq]
          exact ⟨⟨h.1.1, hv⟩, h.2⟩
      · simp only [h2, if_false]
        simp only [storeAbove, Bool.and_eq_true, decide_eq_true_eq]
        exact ⟨h.1, ih h.2 (by simp; omega)⟩

/-- A write keeps the canonical form. -/
theorem storeWf_write {m : Store α} (h : storeWf d m = true) (a : Nat) (v : α) :
    storeWf d (storeWrite d a v m) = true :=
  storeAbove_write h a v (by simp)

/-- Words written in a row keep the canonical form. -/
theorem storeWf_writeList {m : Store α} (h : storeWf d m = true) (a : Nat) (vs : List α) :
    storeWf d (storeWriteList d a vs m) = true := by
  induction vs generalizing a m with
  | nil => exact h
  | cons v rest ih => exact ih (storeWf_write h a v) (a + 1)

/-- What words written in a row leave to be read. -/
theorem storeRead_writeList {m : Store α} (h : storeWf d m = true) (a b : Nat) (vs : List α) :
    storeRead d (storeWriteList d a vs m) b
      = if a ≤ b ∧ b < a + vs.length then vs.getD (b - a) d else storeRead d m b := by
  induction vs generalizing a m with
  | nil => simp [storeWriteList]
  | cons v rest ih =>
    simp only [storeWriteList]
    rw [ih (storeWf_write h a v), storeRead_write h]
    simp only [List.length_cons]
    by_cases e : b = a
    · subst e; simp
    · by_cases h1 : a + 1 ≤ b ∧ b < a + 1 + rest.length
      · rw [if_pos h1, if_pos (by omega), show b - a = (b - (a + 1)) + 1 by omega]; rfl
      · rw [if_neg h1, if_neg e, if_neg (by omega)]

@[simp] theorem storeWf_nil : storeWf d ([] : Store α) = true := rfl

end Stores

/-- The buffers of the reset state stand in their canonical form. -/
theorem reset_storesCanonical : StoresCanonical State.reset where
  table := rfl
  areas := fun c h => by cases h

/-! ### The shared checks and a host command (R183 to R188) -/

theorem hostCommand_refused {a : Availability} {long : Bool} {seat : Option Nat} {s : State}
    {code : ResponseCode} (h : sharedCheck a long seat s = some code) (body : State → Answer) :
    hostCommand a long seat body s = s.commandTaken.respond code [] := by
  simp [hostCommand, h]

theorem hostCommand_taken {a : Availability} {long : Bool} {seat : Option Nat} {s : State}
    (h : sharedCheck a long seat s = none) (body : State → Answer) :
    hostCommand a long seat body s = finish (body s.commandTaken) := by
  simp [hostCommand, h]

/-- The checks pass exactly when the bytes are there, the state and the role suit, and the seat index is
in range. -/
theorem sharedCheck_none {a : Availability} {long : Bool} {seat : Option Nat} {s : State} :
    sharedCheck a long seat s = none ↔
      long = true ∧ a.inState s.station = true ∧ a.inRole s.role = true ∧ ∀ i, seat = some i → i ≤ 3 := by
  unfold sharedCheck
  cases long <;> cases a.inState s.station <;> cases a.inRole s.role <;> cases seat <;> simp

@[simp] theorem everywhere_inState (st : StationState) : everywhere.inState st = true := by
  cases st <;> rfl

@[simp] theorem everywhere_inRole (r : Role) : everywhere.inRole r = true := rfl

@[simp] theorem setupOnly_inRole (r : Role) : setupOnly.inRole r = true := rfl

@[simp] theorem State.commandTaken_role (s : State) : s.commandTaken.role = s.role := by
  cases h : s.blocks <;> simp [State.role, State.commandTaken, h]

/-- A command taken in every station state and role. -/
theorem hostCommand_everywhere {long : Bool} (h : long = true) (body : State → Answer) (s : State) :
    hostCommand everywhere long none body s = finish (body s.commandTaken) :=
  hostCommand_taken (by simp [sharedCheck_none, h]) body

/-- A setup command taken in SETUP. -/
theorem hostCommand_setup {long : Bool} {s : State} (hs : s.station = .setup) (h : long = true)
    (body : State → Answer) :
    hostCommand setupOnly long none body s = finish (body s.commandTaken) :=
  hostCommand_taken (by simp [sharedCheck_none, h, hs, setupOnly, Availability.inState,
    Availability.inRole]) body

/-- A chair's command with no seat parameter, taken. -/
theorem chairCommand_taken {n : Nat} {ps : List Byte} {s : State} {c : ChairBlocks}
    (h : s.chairOnline c) (hn : n ≤ ps.length) (rule : ChairView → ChairAnswer) :
    chairCommand n ps rule s
      = finish (closeChair (rule ⟨s.commandTaken, { c with armed := none }⟩)) := by
  obtain ⟨h1, h2⟩ := h
  unfold chairCommand
  rw [hostCommand_taken (by simp [sharedCheck_none, hn, h1, chairOnline, Availability.inState,
    Availability.inRole, State.role, h2])]
  simp [answerChair, h2]

/-- A chair's command that names a seat, taken. -/
theorem seatCommand_taken {n : Nat} {ps : List Byte} {s : State} {c : ChairBlocks}
    (h : s.chairOnline c) (hn : n ≤ ps.length) (hi : param ps 0 ≤ 3)
    (rule : Fin 4 → ChairView → ChairAnswer) :
    seatCommand n ps rule s
      = finish (closeChair (rule (paramSeat ps) ⟨s.commandTaken, { c with armed := none }⟩)) := by
  obtain ⟨h1, h2⟩ := h
  unfold seatCommand
  rw [hostCommand_taken (by simp [sharedCheck_none, hn, h1, chairOnline, Availability.inState,
    Availability.inRole, State.role, h2, hi])]
  simp [answerChair, h2]

/-- A machine's command taken. -/
theorem machineCommand_taken {a : Availability} {long : Bool} {s : State} {m : MachineBlocks}
    (h : s.blocks = .machine m) (hs : a.inState s.station = true) (hr : a.inRole .machine = true)
    (hl : long = true) (rule : MachineView → MachineAnswer) :
    hostCommand a long none (answerMachine rule) s
      = finish (closeMachine (rule ⟨s.commandTaken, m⟩)) := by
  rw [hostCommand_taken (by simp [sharedCheck_none, hl, hs, State.role, h, hr])]
  simp [answerMachine, h]

/-! ### A rule of one role -/

theorem onMachine_machine {s : State} {m : MachineBlocks} (h : s.blocks = .machine m)
    (f : MachineView → MachineView) : onMachine f s = (f ⟨s, m⟩).close := by
  simp [onMachine, h]

theorem onChair_chair {s : State} {c : ChairBlocks} (h : s.blocks = .chair c)
    (f : ChairView → ChairView) : onChair f s = (f ⟨s, c⟩).close := by
  simp [onChair, h]

theorem onMachine_other {s : State} (h : ∀ m, s.blocks ≠ .machine m) (f : MachineView → MachineView) :
    onMachine f s = s := by
  unfold onMachine; split
  · next m e => exact absurd e (h m)
  · rfl

theorem onChair_other {s : State} (h : ∀ c, s.blocks ≠ .chair c) (f : ChairView → ChairView) :
    onChair f s = s := by
  unfold onChair; split
  · next c e => exact absurd e (h c)
  · rfl

/-! ### A frame taken from the receive FIFO (R4, R160) -/

theorem takeOnMachine_taken {s : State} {m : MachineBlocks} {f : Frame} {rest : List Frame}
    (h : s.machineHears m f rest) {rule : Frame → Option (MachineView → MachineView)}
    {g : MachineView → MachineView} (hr : rule f = some g) :
    takeOnMachine rule s = (g ⟨s.takeHead rest, m⟩).close := by
  obtain ⟨h1, h2, h3⟩ := h
  simp [takeOnMachine, h1, h2, h3, hr]

theorem takeOnChair_taken {s : State} {c : ChairBlocks} {f : Frame} {rest : List Frame}
    (h : s.chairHears c f rest) {rule : Frame → Option (ChairView → ChairView)}
    {g : ChairView → ChairView} (hr : rule f = some g) :
    takeOnChair rule s = ((g ⟨s.takeHead rest, c⟩).fifoLeft rest.length).close := by
  obtain ⟨h1, h2, h3⟩ := h
  simp [takeOnChair, h1, h2, h3, hr]

/-- Either the state stands, or a frame at the head of the FIFO is taken by the rule for its kind. -/
theorem takeOnMachine_cases (rule : Frame → Option (MachineView → MachineView)) (s : State) :
    takeOnMachine rule s = s ∨ ∃ m f rest g, s.machineHears m f rest ∧ rule f = some g
      ∧ takeOnMachine rule s = (g ⟨s.takeHead rest, m⟩).close := by
  unfold takeOnMachine
  split
  · next m f rest h1 h2 h3 =>
    split
    · next g hg => exact .inr ⟨m, f, rest, g, ⟨h1, h2, h3⟩, hg, rfl⟩
    · exact .inl rfl
  · exact .inl rfl

theorem takeOnChair_cases (rule : Frame → Option (ChairView → ChairView)) (s : State) :
    takeOnChair rule s = s ∨ ∃ c f rest g, s.chairHears c f rest ∧ rule f = some g
      ∧ takeOnChair rule s = ((g ⟨s.takeHead rest, c⟩).fifoLeft rest.length).close := by
  unfold takeOnChair
  split
  · next c f rest h1 h2 h3 =>
    split
    · next g hg => exact .inr ⟨c, f, rest, g, ⟨h1, h2, h3⟩, hg, rfl⟩
    · exact .inl rfl
  · exact .inl rfl

/-! ### Notices and frames (R146, R151, R192, R193) -/

theorem State.raise_room {n : Notice} {s : State} (h : s.notices.queue.length < 32) :
    s.raise n = { s with notices := { s.notices with queue := s.notices.queue ++ [n] } } := by
  simp [State.raise, Config.noticeDepth, h]

theorem State.raise_full {n : Notice} {s : State} (h : 32 ≤ s.notices.queue.length) :
    s.raise n = { s with notices := { s.notices with overrun := true, clearStep := false } } := by
  simp [State.raise, Config.noticeDepth, Nat.not_lt.2 h]

/-- An offer either leaves the line, or gives it one of two queues; a refusal may raise LINE_DROP. -/
theorem State.offer_cases (f : Frame) (s : State) :
    s.offer f = (s, false)
    ∨ (s.station = .online ∧ s.offer f = (s.raise (lineDrop f .queueFull), false))
    ∨ (s.station = .online ∧ s.line.waiting.any (sameDrive f) = true
        ∧ s.offer f = ({ s with line := s.line.requeue (replaceDrive f s.line.waiting) }, true))
    ∨ (s.station = .online ∧ s.line.refuses f = false
        ∧ s.offer f = ({ s with line := s.line.requeue (placeFrame f s.line.waiting) }, true)) := by
  unfold State.offer
  split
  · exact .inl rfl
  · next h =>
    have h : s.station = .online := by simpa using h
    split
    · next h1 => exact .inr (.inr (.inl ⟨h, h1, rfl⟩))
    · split
      · split
        · exact .inl rfl
        · exact .inr (.inl ⟨h, rfl⟩)
      · next h2 => exact .inr (.inr (.inr ⟨h, by simpa using h2, rfl⟩))

@[simp] theorem State.sends_nil (s : State) : s.sends [] = s := rfl
@[simp] theorem State.sends_cons (f : Frame) (fs : List Frame) (s : State) :
    s.sends (f :: fs) = (s.send f).sends fs := rfl
@[simp] theorem State.raises_nil (s : State) : s.raises [] = s := rfl
@[simp] theorem State.raises_cons (n : Notice) (ns : List Notice) (s : State) :
    s.raises (n :: ns) = (s.raise n).raises ns := rfl

/-! ### The gate recomputed (R65) -/

/-- A recomputation reads the record's state kind, its terms and the gate's own inputs alone: one after
another gives what the later one gives. -/
@[simp] theorem DriveGate.recompute_recompute (c : Configuration) (b b' : Binding) (g : DriveGate) :
    (g.recompute c b).recompute c b' = g.recompute c b' := by
  obtain ⟨_, _, _, r, _, _, _, _, _, _, _⟩ := g
  cases r <;> rfl

section
variable (c : Configuration) (b : Binding) (g : DriveGate)

@[simp] theorem DriveGate.recompute_halted : (g.recompute c b).halted = g.halted := rfl
@[simp] theorem DriveGate.recompute_stopActive : (g.recompute c b).stopActive = g.stopActive := rfl
@[simp] theorem DriveGate.recompute_held : (g.recompute c b).held = g.held := rfl
@[simp] theorem DriveGate.recompute_strobeTimer : (g.recompute c b).strobeTimer = g.strobeTimer := rfl
@[simp] theorem DriveGate.recompute_ramp : (g.recompute c b).ramp = g.ramp.map (Ramp.refresh c) := rfl
@[simp] theorem DriveGate.recompute_combined :
    (g.recompute c b).combined = rightsInter b.admittedRights b.zoneResult.rights := rfl

end

/-- A recomputation reads of the gate only the halt latch, the stop input, the held demand, the strobe timer
and the ramp, and of the record only its state, terms, cap, misses and zone result. -/
theorem DriveGate.recompute_inputs (c : Configuration) {b b' : Binding} {g g' : DriveGate}
    (h1 : g.halted = g'.halted) (h2 : g.stopActive = g'.stopActive) (h3 : g.held = g'.held)
    (h4 : g.strobeTimer = g'.strobeTimer) (h5 : g.ramp.map (Ramp.refresh c) = g'.ramp.map (Ramp.refresh c))
    (h6 : b.state = b'.state) (h7 : b.admittedRights = b'.admittedRights)
    (h8 : b.admittedLimit = b'.admittedLimit) (h9 : b.contextCap = b'.contextCap)
    (h10 : b.misses = b'.misses) (h11 : b.zoneResult = b'.zoneResult) :
    g.recompute c b = g'.recompute c b' := by
  obtain ⟨_, _, _, _, _, _, _, _, _, _, _⟩ := g
  obtain ⟨_, _, _, _, _, _, _, _, _, _, _⟩ := g'
  obtain ⟨_, _, _, _, _, _, _, _, _, _, _, _, _, _⟩ := b
  obtain ⟨_, _, _, _, _, _, _, _, _, _, _, _, _, _⟩ := b'
  simp only at h1 h2 h3 h4 h5 h6 h7 h8 h9 h10 h11
  subst h1 h2 h3 h4 h6 h7 h8 h9 h10 h11
  simp only [DriveGate.recompute, DriveGate.ceilings, h5]
  rfl

/-- After a recomputation the gate agrees with its inputs. -/
theorem DriveGate.recompute_agrees (c : Configuration) (b : Binding) (g : DriveGate) :
    GateAgrees c b (g.recompute c b) where
  combined := rfl
  ramp := by
    intro r h
    obtain ⟨_, _, _, q, _, _, _, _, _, _, _⟩ := g
    cases q <;> cases h; rfl
  ceiling := rfl
  reverse := rfl
  outputs := rfl
  driveEnable := by simp [DriveGate.recompute, DriveGate.drive]
  strobe := by simp [DriveGate.recompute, DriveGate.drive]

/-! ### An ordinary lookup, and the length of the transmit queue -/

/-- What a lookup can do: answer from the cache, fault, or walk to a LEAF and fill the cache (R123, R127,
R128). -/
theorem Zones.lookup_cases (code : ZoneCode) (z : Zones) :
    (∃ e, cacheHit z code = some e ∧ z.lookup code = (found e.covered e.result true, z))
    ∨ (∃ f, cacheHit z code = none ∧ walk z code = .error f ∧ z.lookup code = (faulted f, z))
    ∨ (∃ p r, cacheHit z code = none ∧ walk z code = .ok (p, r)
        ∧ z.lookup code
          = (found p r false, { z with cache := fill ⟨p, z.generation, r⟩ z.cache })) := by
  unfold Zones.lookup
  split
  · next e h => exact .inl ⟨e, h, rfl⟩
  · next h =>
    split
    · next f hw => exact .inr (.inl ⟨f, h, hw, rfl⟩)
    · next p r hw => exact .inr (.inr ⟨p, r, h, hw, rfl⟩)

/-- A fill leaves at most 8 entries in a cache of at most 8 (R126, R128). -/
theorem fill_length {new : CacheEntry} {cache : List CacheEntry} (h : cache.length ≤ 8) :
    (fill new cache).length ≤ 8 := by
  have hk : (cache.filter fun e => !conflicts e new).length ≤ 8 := (List.length_filter_le _ _).trans h
  unfold fill
  simp only [List.length_append, List.length_cons, List.length_nil]
  split
  · simp only [List.length_tail]; omega
  · next h' => simp only [Config.cacheDepth] at h'; omega

theorem replaceDrive_length (f : Frame) (q : List QueuedFrame) : (replaceDrive f q).length = q.length := by
  induction q with
  | nil => rfl
  | cons e rest ih => unfold replaceDrive; split <;> simp [ih]

theorem placeHalt_length (e : QueuedFrame) (q : List QueuedFrame) :
    (placeHalt e q).length = q.length + 1 := by
  have h := congrArg List.length (List.takeWhile_append_dropWhile (p := fun w => isHalt w.frame) (l := q))
  simp only [List.length_append] at h
  simp only [placeHalt, List.length_append, List.length_cons]
  omega

theorem placeFrame_length (f : Frame) (q : List QueuedFrame) : (placeFrame f q).length = q.length + 1 := by
  unfold placeFrame; split
  · exact placeHalt_length _ _
  · simp

/-! ### Levels heard (R145, R156) -/

theorem heardByte_byteBits (b : Byte) : heardByte (byteBits b) = b := by
  revert b; decide +kernel

/-- A byte's levels on SDI are that byte, ahead of the bytes of the levels after them (R176). -/
theorem sdiBytes_byteBits (b : Byte) (rest : List Bool) : sdiBytes (byteBits b ++ rest) = b :: sdiBytes rest := by
  have h := heardByte_byteBits b
  simp only [byteBits] at h
  simp only [byteBits, List.cons_append, List.nil_append, sdiBytes, h]

theorem sdiBytes_cut {cut : List Bool} (h : cut.length < 8) : sdiBytes cut = [] := by
  match cut, h with
  | [], _ | [_], _ | [_, _], _ | [_, _, _], _ | [_, _, _, _], _ | [_, _, _, _, _], _ | [_, _, _, _, _, _], _
  | [_, _, _, _, _, _, _], _ => rfl
  | _ :: _ :: _ :: _ :: _ :: _ :: _ :: _ :: _, h => simp only [List.length_cons] at h; omega

theorem Line.hear_cases (level : Bool) (l : Line) :
    (∃ a, l.hear level = ({ l with assembly := a, quiet := l.quietAfter level }, none))
      ∨ ∃ bytes, l.hear level = (l.restart, some bytes) := by
  unfold Line.hear
  split
  · exact .inl ⟨_, rfl⟩
  · split
    · exact .inl ⟨_, rfl⟩
    · exact .inl ⟨_, rfl⟩
    · exact .inr ⟨_, rfl⟩

/-- Levels heard change the assembly and the quiet count alone, and a frame complete leaves no assembly and the
count at 0. -/
theorem Line.receive_cases (levels : List Bool) (l : Line) :
    (∃ a q, l.receive levels = ({ l with assembly := a, quiet := q }, none))
      ∨ ∃ bytes, l.receive levels = (l.restart, some bytes) := by
  induction levels generalizing l with
  | nil => exact .inl ⟨l.assembly, l.quiet, rfl⟩
  | cons level rest ih =>
    simp only [Line.receive]
    rcases l.hear_cases level with ⟨a, h⟩ | ⟨bytes, h⟩ <;> rw [h]
    · exact ih _
    · exact .inr ⟨bytes, rfl⟩

theorem Line.receive_append (xs ys : List Bool) (l : Line) :
    l.receive (xs ++ ys) = match l.receive xs with
      | (l', some bytes) => (l', some bytes)
      | (l', none) => l'.receive ys := by
  induction xs generalizing l with
  | nil => rfl
  | cons x xs ih =>
    simp only [List.cons_append, Line.receive]
    split <;> simp [ih]

/-- The levels of a whole byte, heard where a start bit is due. -/
theorem Line.receive_byte {l : Line} {bytes : List Byte} (h : l.assembly = some ⟨bytes, []⟩) (b : Byte) :
    ∃ q, l.receive (byteLevels b) = match takeByte (bytes ++ [b]) with
      | .going a => ({ l with assembly := some a, quiet := q }, none)
      | .discarded => ({ l with assembly := none, quiet := q }, none)
      | .complete bs => (l.restart, some bs) := by
  have hb := heardByte_byteBits b
  simp only [byteBits] at hb
  simp only [byteLevels, byteBits, Line.receive, Line.hear, Assembly.hear, h, List.cons_append,
    List.nil_append, List.length_nil]
  simp [-BitVec.getLsbD_eq_getElem, hb]
  cases takeByte (bytes ++ [b]) <;> first | exact ⟨_, rfl⟩ | exact ⟨0, rfl⟩

/-- High levels raise the quiet count, each by one, whatever they make of the assembly. -/
theorem Line.stayHigh_some {bits : Nat} {l l' : Line} (h : l.stayHigh bits = some l') :
    l' = { l with assembly := l'.assembly, quiet := l.quiet + bits } := by
  unfold Line.stayHigh at h
  split at h
  case h_2 => cases h
  case h_1 heq =>
    cases h
    induction bits generalizing l with
    | zero => simp only [List.replicate, Line.receive, Prod.mk.injEq] at heq; rw [← heq.1]; rfl
    | succ n ih =>
      simp only [List.replicate, Line.receive] at heq
      rcases l.hear_cases true with ⟨a, h⟩ | ⟨bytes, h⟩ <;> rw [h] at heq
      · rw [ih heq]
        simp only [Line.quietAfter, if_true, Line.mk.injEq, and_true, true_and]
        omega
      · cases heq

/-- High levels with no assembly do no more than raise the quiet count. -/
theorem Line.stayHigh_idle {l : Line} (h : l.assembly = none) (bits : Nat) :
    l.stayHigh bits = some { l with quiet := l.quiet + bits } := by
  unfold Line.stayHigh
  suffices hr : l.receive (List.replicate bits restLevel) = ({ l with quiet := l.quiet + bits }, none) by rw [hr]
  induction bits generalizing l with
  | zero => rfl
  | succ n ih =>
    have hh : l.hear restLevel = ({ l with quiet := l.quiet + 1 }, none) := by
      simp [Line.hear, h, Line.hearIdle, Line.quietAfter]
    simp only [List.replicate, Line.receive, hh]
    rw [ih (by exact h)]
    simp only [Prod.mk.injEq, Line.mk.injEq, and_true, true_and]
    omega

/-- A start bit on a line quiet for 8 bit times begins an assembly. -/
theorem Line.receive_begin {l : Line} (ha : l.assembly = none) (hq : 8 ≤ l.quiet) (levels : List Bool) :
    l.receive (false :: levels)
      = ({ l with assembly := some ⟨[], []⟩, quiet := 0 } : Line).receive (false :: levels) := by
  simp [Line.receive, Line.hear, Line.hearIdle, Line.quietAfter, ha, hq, assemblyQuiet, Assembly.hear]

/-- A low level changes the assembly alone, and returns the quiet count to 0. -/
theorem Line.hear_low (l : Line) : ∃ a, (l.hear false).1 = { l with assembly := a, quiet := 0 } := by
  unfold Line.hear
  cases l.assembly with
  | none => exact ⟨_, rfl⟩
  | some a => dsimp only; cases a.hear false <;> exact ⟨_, rfl⟩

/-- What FRAME_START leaves of the line: the line as it stood, or after its high levels, with the head frame
started or not. -/
theorem Line.startAfter_cases (bits : Nat) (l : Line) :
    l.startAfter bits = l ∨ ∃ l', l.stayHigh bits = some l'
      ∧ (l.startAfter bits = l' ∨ l'.transmitter = .defer ∧ l.startAfter bits = l'.begin) := by
  unfold Line.startAfter
  split
  · exact .inl rfl
  · cases h : l.stayHigh bits with
    | none => exact .inl rfl
    | some l' =>
      refine .inr ⟨l', rfl, ?_⟩
      simp only [Option.map_some, Option.getD_some, Line.startHead]
      split
      · next ht _ =>
        split
        · exact .inr ⟨ht, rfl⟩
        · exact .inl rfl
      · exact .inl rfl

/-- What LTX carries in an attempt: the levels of the head frame. -/
theorem Line.driven_sending {l : Line} {e : QueuedFrame} {rest : List QueuedFrame}
    (ht : l.transmitter = .sending) (hq : l.queue = e :: rest) : l.driven = frameLevels e.frame := by
  simp [Line.driven, Line.onLine, ht, hq]

end Sys2Proof.Machine
end

