-- ==== Sys2Proof/Laws/PerInstr.lean ====
section
/-!
SUPPORT. Laws/PerInstr.lean: for each row, that the transaction a row of the host port is spells that row
again.
-/
namespace Sys2Proof.Laws.Transactions

/-- The transaction that a well-formed row is, is read as that row (R176, R177). -/
def Statement (i : Instr) : Prop :=
  ∀ bytes, i.transactionBytes = some bytes → i.wellFormed = true → commandOfTransaction bytes = i

theorem hardReset : Statement .hardReset := by
  intro bytes h; cases h

theorem stopNTaken (low : Bool) : Statement (.stopNTaken low) := by
  intro bytes h; cases h

theorem emptyTransaction : Statement .emptyTransaction := by
  intro bytes h _; cases h; rfl

theorem unknownCommand (code : Byte) (params : List Byte) : Statement (.unknownCommand code params) := by
  intro bytes h hw
  cases h
  simp only [Instr.wellFormed, assignedCodes, List.contains_eq_mem, Bool.not_eq_true', decide_eq_false_iff_not,
    List.mem_cons, List.not_mem_nil, or_false, not_or] at hw
  simp only [commandOfTransaction]
  split <;> first | rfl | (exfalso; omega)

theorem setRole (params : List Byte) : Statement (.setRole params) := by
  intro bytes h _; cases h; rfl

theorem setStation (params : List Byte) : Statement (.setStation params) := by
  intro bytes h _; cases h; rfl

theorem setClock (params : List Byte) : Statement (.setClock params) := by
  intro bytes h _; cases h; rfl

theorem setLineRate (params : List Byte) : Statement (.setLineRate params) := by
  intro bytes h _; cases h; rfl

theorem setTiming (params : List Byte) : Statement (.setTiming params) := by
  intro bytes h _; cases h; rfl

theorem setRamp (params : List Byte) : Statement (.setRamp params) := by
  intro bytes h _; cases h; rfl

theorem setStrobe (params : List Byte) : Statement (.setStrobe params) := by
  intro bytes h _; cases h; rfl

theorem start (params : List Byte) : Statement (.start params) := by
  intro bytes h _; cases h; rfl

theorem seatAsk (params : List Byte) : Statement (.seatAsk params) := by
  intro bytes h _; cases h; rfl

theorem seatYield (params : List Byte) : Statement (.seatYield params) := by
  intro bytes h _; cases h; rfl

theorem seatDecline (params : List Byte) : Statement (.seatDecline params) := by
  intro bytes h _; cases h; rfl

theorem seatRelease (params : List Byte) : Statement (.seatRelease params) := by
  intro bytes h _; cases h; rfl

theorem seatSetpoint (params : List Byte) : Statement (.seatSetpoint params) := by
  intro bytes h _; cases h; rfl

theorem seatLimit (params : List Byte) : Statement (.seatLimit params) := by
  intro bytes h _; cases h; rfl

theorem seatHold (params : List Byte) : Statement (.seatHold params) := by
  intro bytes h _; cases h; rfl

theorem seatGo (params : List Byte) : Statement (.seatGo params) := by
  intro bytes h _; cases h; rfl

theorem seatAbandon (params : List Byte) : Statement (.seatAbandon params) := by
  intro bytes h _; cases h; rfl

theorem seatRead (params : List Byte) : Statement (.seatRead params) := by
  intro bytes h _; cases h; rfl

theorem contextWrite (params : List Byte) : Statement (.contextWrite params) := by
  intro bytes h _; cases h; rfl

theorem contextRead (params : List Byte) : Statement (.contextRead params) := by
  intro bytes h _; cases h; rfl

theorem seizeArm (params : List Byte) : Statement (.seizeArm params) := by
  intro bytes h _; cases h; rfl

theorem seize (params : List Byte) : Statement (.seize params) := by
  intro bytes h _; cases h; rfl

theorem haltMachine (params : List Byte) : Statement (.haltMachine params) := by
  intro bytes h _; cases h; rfl

theorem resumeMachine (params : List Byte) : Statement (.resumeMachine params) := by
  intro bytes h _; cases h; rfl

theorem fleetRead (params : List Byte) : Statement (.fleetRead params) := by
  intro bytes h _; cases h; rfl

theorem position (params : List Byte) : Statement (.position params) := by
  intro bytes h _; cases h; rfl

theorem localHalt (params : List Byte) : Statement (.localHalt params) := by
  intro bytes h _; cases h; rfl

theorem localResume (params : List Byte) : Statement (.localResume params) := by
  intro bytes h _; cases h; rfl

theorem clearBinding (params : List Byte) : Statement (.clearBinding params) := by
  intro bytes h _; cases h; rfl

theorem slotRead (params : List Byte) : Statement (.slotRead params) := by
  intro bytes h _; cases h; rfl

theorem zoneWrite (params : List Byte) : Statement (.zoneWrite params) := by
  intro bytes h _; cases h; rfl

theorem zoneRead (params : List Byte) : Statement (.zoneRead params) := by
  intro bytes h _; cases h; rfl

theorem zoneGeneration (params : List Byte) : Statement (.zoneGeneration params) := by
  intro bytes h _; cases h; rfl

theorem zoneFence (params : List Byte) : Statement (.zoneFence params) := by
  intro bytes h _; cases h; rfl

theorem zoneLookup (params : List Byte) : Statement (.zoneLookup params) := by
  intro bytes h _; cases h; rfl

theorem statusRead (params : List Byte) : Statement (.statusRead params) := by
  intro bytes h _; cases h; rfl

theorem noticeRead (params : List Byte) : Statement (.noticeRead params) := by
  intro bytes h _; cases h; rfl

theorem softReset (params : List Byte) : Statement (.softReset params) := by
  intro bytes h _; cases h; rfl

theorem listenTimerExpiry : Statement .listenTimerExpiry := by
  intro bytes h; cases h

theorem completeFrame (levels : List Bool) (driven : Bool) : Statement (.completeFrame levels driven) := by
  intro bytes h; cases h

theorem frameStart (bits : Nat) : Statement (.frameStart bits) := by
  intro bytes h; cases h

theorem frameSent : Statement .frameSent := by
  intro bytes h; cases h

theorem mismatch : Statement .mismatch := by
  intro bytes h; cases h

theorem backoffEnd (slots : Nat) : Statement (.backoffEnd slots) := by
  intro bytes h; cases h

theorem ask : Statement .ask := by
  intro bytes h; cases h

theorem seizeFrame : Statement .seizeFrame := by
  intro bytes h; cases h

theorem yield : Statement .yield := by
  intro bytes h; cases h

theorem decline : Statement .decline := by
  intro bytes h; cases h

theorem release : Statement .release := by
  intro bytes h; cases h

theorem admitFrame : Statement .admitFrame := by
  intro bytes h; cases h

theorem drive : Statement .drive := by
  intro bytes h; cases h

theorem halt : Statement .halt := by
  intro bytes h; cases h

theorem resume : Statement .resume := by
  intro bytes h; cases h

theorem witnessSegment : Statement .witnessSegment := by
  intro bytes h; cases h

theorem witnessSum : Statement .witnessSum := by
  intro bytes h; cases h

theorem accept : Statement .accept := by
  intro bytes h; cases h

theorem abandon : Statement .abandon := by
  intro bytes h; cases h

theorem heartbeatExpiry : Statement .heartbeatExpiry := by
  intro bytes h; cases h

theorem yieldWindowExpiry : Statement .yieldWindowExpiry := by
  intro bytes h; cases h

theorem handoverWindowExpiry : Statement .handoverWindowExpiry := by
  intro bytes h; cases h

theorem beaconPeriodExpiry : Statement .beaconPeriodExpiry := by
  intro bytes h; cases h

theorem rampTimerExpiry : Statement .rampTimerExpiry := by
  intro bytes h; cases h

theorem strobeTimerExpiry : Statement .strobeTimerExpiry := by
  intro bytes h; cases h

theorem beacon : Statement .beacon := by
  intro bytes h; cases h

theorem grant : Statement .grant := by
  intro bytes h; cases h

theorem refuse : Statement .refuse := by
  intro bytes h; cases h

theorem propose : Statement .propose := by
  intro bytes h; cases h

theorem openTransfer : Statement .openTransfer := by
  intro bytes h; cases h

theorem receiverSegment : Statement .receiverSegment := by
  intro bytes h; cases h

theorem receiverSum : Statement .receiverSum := by
  intro bytes h; cases h

theorem go : Statement .go := by
  intro bytes h; cases h

theorem hold : Statement .hold := by
  intro bytes h; cases h

theorem stop : Statement .stop := by
  intro bytes h; cases h

theorem lag : Statement .lag := by
  intro bytes h; cases h

theorem commit : Statement .commit := by
  intro bytes h; cases h

theorem abort : Statement .abort := by
  intro bytes h; cases h

theorem drivePeriodExpiry : Statement .drivePeriodExpiry := by
  intro bytes h; cases h

theorem askRepeat (seat : Fin 4) : Statement (.askRepeat seat) := by
  intro bytes h; cases h

theorem answerWaitExpiry (seat : Fin 4) : Statement (.answerWaitExpiry seat) := by
  intro bytes h; cases h

theorem localProposalWaitExpiry (seat : Fin 4) : Statement (.localProposalWaitExpiry seat) := by
  intro bytes h; cases h

theorem localHandoverWaitExpiry (seat : Fin 4) : Statement (.localHandoverWaitExpiry seat) := by
  intro bytes h; cases h

theorem ageOut (machine : Nat) : Statement (.ageOut machine) := by
  intro bytes h; cases h

theorem receiveAssemblyDiscarded : Statement .receiveAssemblyDiscarded := by
  intro bytes h; cases h

end Sys2Proof.Laws.Transactions
end

