-- ==== Sys2Proof/Tests/Slice0.lean ====
section
/-!
SUPPORT. Tests/Slice0.lean: tests on small states, their expected results from the examples and tables of
spec/, and for every obligation with hypotheses a witness that states and operands meet them, clause by clause.
-/
set_option maxRecDepth 20000
namespace Sys2Proof.Tests
open Sys2Proof.Machine

/-! ### States for the tests -/

/-- Station 7 with a configuration of its own. -/
def testConfig : Configuration :=
  { Configuration.reset with
    station := 7, yieldWindow := 9, handoverWindow := 21, crawlFloor := 16, reverseRatio := 3, rampStep := 12
    strobeWidth := 30, missLimit := 4 }
/-- Zone 3.5.9. -/
def zoneA : ZoneCode := ⟨3, 5, 9⟩
/-- Zone 4.2.1. -/
def zoneB : ZoneCode := ⟨4, 2, 1⟩
/-- Zone 9.9.9, of which the table holds nothing. -/
def zoneN : ZoneCode := ⟨9, 9, 9⟩
/-- The cache entry for sublevel 4. -/
def entryB : CacheEntry := ⟨.level1 4, 6, ⟨⟨true, true, false, true⟩, 120, true⟩⟩
/-- Sublevels 3 and 4 as LEAFs, sublevel 4 in the cache. -/
def testZones : Zones :=
  ⟨[(3, .leaf ⟨true, true, true, false⟩ 180 false), (4, .leaf ⟨true, true, false, true⟩ 120 true)], 6, [entryB]⟩
/-- A line with a HALT and a DRIVE waiting. -/
def testLine (fifo : List Frame) : Line :=
  { transmitter := .defer
    queue := [⟨⟨7, 20, .halt⟩, 1, 0⟩, ⟨⟨7, 21, .drive 3 4 Setpoints.zero⟩, 0, 0⟩]
    generator := 0x1234, quiet := 17, assembly := some ⟨[0xC3], []⟩, fifo := fifo, overrun := true }
/-- An ONLINE station with a role's blocks and a receive FIFO. -/
def stationWith (b : Blocks) (fifo : List Frame) : State :=
  { config := testConfig, station := .online, listenTimer := none, time := 5003, zones := testZones
    line := testLine fifo, port := ⟨⟨.collided, []⟩, some [1], true, true⟩
    notices := ⟨[⟨.clash, none, 7, .none, 3⟩], true, true⟩, blocks := b, pending := [.start []] }
/-- The station in another station state. -/
def inStation (st : StationState) (s : State) : State := { s with station := st }
/-- The state that a command answers. -/
def after (c : Instr) (s : State) : State :=
  match exec c s with
  | .next t => t
  | _ => s
/-- A machine's record in zone 3.5.9, at its highest epoch and transfer counter. -/
def bindingIn (st : BindingState) : Binding :=
  { state := st, controller := 31, epoch := 65535, transferCounter := 255, misses := 1, seen := false
    admittedZone := zoneA, admittedRights := ⟨true, true, true, false⟩, admittedLimit := 150, contextCap := 140
    machineZone := some zoneA, zoneResult := ⟨⟨true, true, true, true⟩, 130, false⟩, heartbeat := some 5010
    beaconTimer := some 5040 }
/-- A ramp two expiries from 100. -/
def testRamp : Ramp := ⟨100, 2, 76, 5100⟩
/-- A gate with a demand held, a ramp and a strobe pulse. -/
def testGate : DriveGate :=
  { DriveGate.reset with
    held := ⟨⟨200, 3, 50, 20, false⟩, some 9, some 4990⟩, ramp := some testRamp
    strobeTimer := some 5200 }
/-- A gate with a reverse demand, a dump, and a stop flag or none. -/
def gateDump (stop : Bool) : DriveGate :=
  { testGate with held := ⟨⟨-1, 3, 50, -20, stop⟩, some 9, some 4990⟩ }
def gateStopped : DriveGate := gateDump true
def gateReverse : DriveGate := gateDump false
/-- A gate under the stop input. -/
def gateStopInput : DriveGate := { testGate with stopActive := true }
/-- A machine in a binding state. -/
def machineIn (st : BindingState) : MachineBlocks :=
  ⟨bindingIn st, testGate.recompute testConfig (bindingIn st)⟩
/-- A second frame in a machine's FIFO. -/
def laterFrames : List Frame := [⟨9, 7, .halt⟩]
/-- A machine with a frame at the head of its FIFO. -/
def machineHeard (st : BindingState) (source : Nat) (b : Body) : State :=
  stationWith (.machine (machineIn st)) (⟨source, 7, b⟩ :: laterFrames)
/-- A proposal of chair 44 for zone 4.2.1. -/
def proposal44 : Proposal := ⟨44, ⟨zoneB, ⟨true, true, false, false⟩, 99⟩, 5500⟩
/-- Transfer 77 of 20 words from chair 31 to chair 44. -/
def transfer77 : TransferRecord :=
  { number := 77, sender := 31, receiver := 44, length := 20
    admission := ⟨zoneB, ⟨true, true, false, false⟩, 99⟩, witnessIndex := 0, witnessSum := 0xFFFF
    witnessedLimit := none, senderSum := some 5, lagCount := 2, lastLagBurst := some 3, firstError := none
    deadline := 6000, startCeiling := 100 }
def transferAt18 : TransferRecord := { transfer77 with witnessIndex := 18 }
def transferAt20 : TransferRecord := { transfer77 with witnessIndex := 20 }
def transferLagged : TransferRecord := { transfer77 with lagCount := 4 }
def transferAgreed : TransferRecord := { transferAt20 with witnessSum := 5#16, witnessedLimit := some 88 }
def transferErred : TransferRecord := { transferAt20 with firstError := some .windowExpired }
/-- A demand in reverse. -/
def reverseDemand : Setpoints := ⟨-90, 7, 8, 9, false⟩
/-- Terms for zone 3.5.9. -/
def termsA : Terms := ⟨zoneA, ⟨true, true, false, true⟩, 201⟩
/-- A machine one miss from the limit. -/
def machineMissed (st : BindingState) : MachineBlocks :=
  ⟨{ bindingIn st with misses := 3 }, testGate.recompute testConfig { bindingIn st with misses := 3 }⟩
def missedStation (st : BindingState) : State := stationWith (.machine (machineMissed st)) laterFrames
/-- A bound machine under the halt latch. -/
def machineHalted : MachineBlocks :=
  ⟨bindingIn .bound, ({ testGate with halted := true } : DriveGate).recompute testConfig (bindingIn .bound)⟩
def haltedHeard (b : Body) : State := stationWith (.machine machineHalted) (⟨31, 7, b⟩ :: laterFrames)
/-- Machines whose zone is unreported. -/
def machineUnzoned : MachineBlocks := ⟨{ bindingIn .bound with machineZone := none }, testGate⟩
def machineUnplaced : MachineBlocks := ⟨{ bindingIn .unbound with machineZone := none }, testGate⟩
def unzonedStation : State := stationWith (.machine machineUnzoned) []
/-- A context area of 33 words. -/
def testArea : ContextArea := ⟨[(0, 1#16), (1, 90#16), (2, 7#16), (9, 5#16), (30, 3#16)], 33⟩
def seatFree : Seat := { Seat.reset with limit := 200, epoch := 3, sequence := 7, askRepeated := true, area := testArea }
def seatHolding : Seat :=
  { seatFree with
    state := .holding, machine := 21, epoch := 300, limit := 210, sequence := 255
    lastAdmitted := ⟨zoneA, ⟨true, true, true, false⟩, 180⟩, proposal := some ⟨50, some 5900⟩
    setpoints := ⟨40, 5, 6, 7, false⟩, setpointAt := some 5000 }
def seatAsking : Seat :=
  { seatFree with
    state := .asking, machine := 22, epoch := 12, lastAdmitted := ⟨zoneB, ⟨true, true, false, true⟩, 120⟩
    answerWait := some 9000, askRepeated := false, asked := ⟨zoneB, ⟨true, true, false, true⟩, 115⟩ }
def seatSending : Seat :=
  { seatFree with
    state := .sending, machine := 23, epoch := 14, lastAdmitted := ⟨zoneB, ⟨true, true, false, true⟩, 120⟩
    proposal := some ⟨51, none⟩, handoverWait := some 20000, transfer := some 77
    setpoints := ⟨-40, 5, 6, 7, true⟩, setpointAt := some 100 }
def seatReceiving : Seat :=
  { seatFree with
    state := .receiving, machine := 23, epoch := 14, lastAdmitted := ⟨zoneB, ⟨true, true, false, true⟩, 120⟩
    handoverWait := some 20000, transfer := some 77 }
def record21 : FleetRecord := ⟨21, .bound, 7, 300, zoneA, 100, false, 0, 4800⟩
def record22 : FleetRecord := ⟨22, .bound, 9, 12, zoneB, 90, false, 0, 100⟩
def record24 : FleetRecord := ⟨24, .orphaned, 7, 15, zoneB, 0, false, 0, 4100⟩
def record25 : FleetRecord := ⟨25, .bound, 7, 15, zoneN, 0, false, 0, 4100⟩
def testFleet : List FleetRecord :=
  [record21, record22, ⟨23, .transfer, 7, 14, zoneB, 90, false, 77, 4000⟩, record24, record25]
/-- A chair with an engine, machine 24 armed, and four seats. -/
def chairWith (e : Engine) (q : Seat := seatSending) : ChairBlocks :=
  ⟨⟨seatFree, seatHolding, seatAsking, q⟩, some 24, some 5050, e, testFleet⟩
/-- Transfer 77 at its sender and at its receiver, each for seat 3. -/
def sendingWork (r : Sender) : ActiveTransfer := ⟨3, 23, 77, 51, 33, 254, .sender r⟩
def receivingWork (r : Receiver) : ActiveTransfer := ⟨3, 23, 77, 51, 33, 255, .receiver r⟩
def engineIdle : Engine := ⟨none, none⟩
def serving (a : ActiveTransfer) : Engine := ⟨some a, none⟩
def senderRun : Sender := ⟨.run, 33, 16, 0x77#16, 2⟩
def senderWaiting : Sender := { senderRun with state := .wait }
def senderWait : Sender := ⟨.wait, 33, 0, 0x77#16, 0⟩
def receiverRun : Receiver := ⟨.run, 16, 8, true, 2, false, false⟩
def receiverCheck : Receiver := { receiverRun with state := .check }
def receiverPaused : Receiver := { receiverRun with state := .paused, hostHold := true }
def receiverPressed : Receiver := { receiverPaused with pressure := true }
def receiverStopped : Receiver := { receiverPaused with state := .stopped }
def receiverAt32 : Receiver := { receiverRun with held := 32 }
def receiverAt33 : Receiver := { receiverRun with held := 33 }
/-- A second frame in a chair's FIFO. -/
def laterBeacon : List Frame := [⟨9, 63, .beacon .bound 3 3 zoneA 3 false 0⟩]
/-- A chair with a frame at the head of its FIFO. -/
def chairHeard (c : ChairBlocks) (source target : Nat) (b : Body) : State :=
  stationWith (.chair c) (⟨source, target, b⟩ :: laterBeacon)
def chairReclaims : ChairBlocks :=
  { chairWith engineIdle with
    seats := ⟨seatFree, { seatHolding with machine := 24, epoch := 15 }, seatAsking, seatSending⟩ }
def chairFull : ChairBlocks :=
  { chairWith engineIdle with
    seats := ⟨{ seatHolding with machine := 40 }, seatHolding, seatAsking, seatSending⟩ }
def chairYields : ChairBlocks :=
  { chairWith engineIdle with seats := ⟨seatFree, seatHolding, seatAsking, seatFree⟩ }
def chairShort : ChairBlocks :=
  { chairWith engineIdle with seats := ⟨seatFree, { seatHolding with area := ⟨[], 7⟩ }, seatAsking, seatFree⟩ }
def chairNoProposal : ChairBlocks :=
  { chairWith engineIdle with
    seats := ⟨seatFree, { seatHolding with proposal := none }, seatAsking, seatSending⟩ }
def chairArmed25 : ChairBlocks := { chairWith engineIdle with armed := some 25 }
/-- Frames waiting in a transmit queue. -/
def queued (b : Body) (target collisions slots : Nat) : QueuedFrame := ⟨⟨7, target, b⟩, collisions, slots⟩
def driveBody (e : Nat) : Body := .drive e 1 Setpoints.zero
def segmentQueued (t k : Nat) : QueuedFrame := queued (.segment t 254 k [1#16]) 51 1 2
def eightReleases : List QueuedFrame := (List.range 8).map fun k => queued (.release 1) (k + 1) 0 0
def twoHalts : List QueuedFrame := [queued .halt 1 0 0, queued .halt 2 0 0]
def others : List QueuedFrame := [queued (.release 1) 3 0 0, queued .halt 4 1 1]
def threeSegments : List QueuedFrame := [segmentQueued 77 0, segmentQueued 77 8, segmentQueued 77 16]
/-- A chair with a transmitter and its queue. -/
def lineWith (tr : Transmitter) (q : List QueuedFrame) : State :=
  { stationWith (.chair (chairWith engineIdle)) [] with
    line := { transmitter := tr, queue := q, generator := 0x0505, quiet := 15, assembly := none, fifo := []
              overrun := false } }
def chairEmptyQueue (c : ChairBlocks) (source target : Nat) (b : Body) : State :=
  { chairHeard c source target b with
    line := { (lineWith .idle []).line with fifo := ⟨source, target, b⟩ :: laterBeacon } }
def chairSegmentQueue (c : ChairBlocks) (source target : Nat) (b : Body) : State :=
  { chairHeard c source target b with
    line := { (lineWith .sending [segmentQueued 77 0, segmentQueued 77 8, queued (.sum 77 8 3) 51 2 3,
      segmentQueued 77 16, segmentQueued 78 4]).line with fifo := ⟨source, target, b⟩ :: laterBeacon } }
def grantFrame : Frame := ⟨22, 7, .grant 5 zoneA⟩
def ownFrame : Frame := ⟨7, 22, .grant 5 zoneA⟩
def releaseFrame : Frame := ⟨22, 7, .release 5⟩
def fifoFull : State := stationWith (.chair (chairWith engineIdle)) (List.replicate 8 ownFrame)
def queuedStation : State := { machineHeard .bound 31 .halt with pending := [.hardReset, .start []] }
def noNumber : State := { State.reset with blocks := .chair (chairWith engineIdle) }
def listenC : State :=
  { inStation .listen (stationWith (.chair (chairWith engineIdle)) []) with listenTimer := some 1000, time := 1000 }
def listenM : State :=
  { inStation .listen unzonedStation with listenTimer := some 1000, time := 990 }
/-- A machine in zone 9.9.9, of which the table holds nothing, with no fault on record. -/
def machineLost : MachineBlocks := ⟨{ bindingIn .unbound with machineZone := some zoneN }, testGate⟩
def listenZoned (m : MachineBlocks) : State :=
  { inStation .listen (stationWith (.machine m) []) with listenTimer := some 1000, time := 990 }
/-- Terms without DRIVE for zone 3.5.9, and terms for zone 9.9.9. -/
def termsIdle : Terms := ⟨zoneA, ⟨true, false, true, true⟩, 90⟩
def termsN : Terms := ⟨zoneN, ⟨true, true, true, true⟩, 90⟩
def transferNoSum : TransferRecord := { transferAt20 with senderSum := none }
def zoneLookupNext : State := { chairHeard (chairWith engineIdle) 9 7 .halt with pending := [.zoneLookup [6, 89]] }
def afterStep (s : State) : State :=
  match step s with
  | .next t => t
  | _ => s
def chairStale : ChairBlocks :=
  { chairWith engineIdle with
    seats := ⟨seatFree, { seatHolding with machine := 24, epoch := 14 }, seatAsking, seatSending⟩ }
/-- Seat 2 receiving transfer 78 of machine 22 behind the active transfer 77 of seat 3. -/
def pending78 : PendingReceive := ⟨22, 78, 52, 40, 2⟩
def chairPending (a : ActiveTransfer) (q : Seat) : ChairBlocks :=
  { chairWith ⟨some a, some pending78⟩ with
    seats := ⟨seatFree, seatHolding, { seatReceiving with machine := 22, transfer := some 78 }, q⟩ }
def chairWaiting : ChairBlocks :=
  { chairWith engineIdle with
    seats := ⟨seatFree, seatHolding, { seatAsking with state := .waiting }, seatSending⟩ }
/-- A HOLDING seat with an ADMIT to repeat. -/
def chairRepeats : ChairBlocks :=
  { chairNoProposal with
    seats := ⟨seatFree, { seatHolding with proposal := none, admitRepeat := some seatHolding.lastAdmitted },
      seatAsking, seatSending⟩ }
/-- Terms of an ADMIT to repeat: of an asking seat, after a reclaim in another zone, and in a zone left. -/
def repeatB : Terms := ⟨zoneB, ⟨true, true, true, true⟩, 77⟩
def termsKept : Terms := ⟨zoneA, ⟨true, true, true, true⟩, 44⟩
def chairReasks : ChairBlocks :=
  { chairWith engineIdle with
    seats := ⟨seatFree, seatHolding, { seatAsking with admitRepeat := some repeatB }, seatSending⟩ }
def holdingWith (last again : Terms) : ChairBlocks :=
  { chairWith engineIdle with
    seats := ⟨seatFree, { seatHolding with proposal := none, lastAdmitted := last, admitRepeat := some again },
      seatAsking, seatSending⟩ }
def chairReadmitted : ChairBlocks := holdingWith ⟨zoneN, ⟨true, true, true, true⟩, 90⟩ termsKept
def chairStaleRepeat : ChairBlocks := holdingWith termsKept ⟨zoneN, ⟨true, true, true, true⟩, 90⟩
/-- 32 records, the second the oldest that no seat names. -/
def otherRecords : List FleetRecord := (List.range 30).map fun k => { record25 with machine := 25 + k }
def chairCrowded : ChairBlocks := { chairWith engineIdle with fleet := [record21] ++ record24 :: otherRecords }
def senderPaused : Sender := ⟨.paused, 33, 8, 0x77#16, 0⟩
def senderPausedFull : Sender := ⟨.paused, 33, 24, 0x77#16, 3⟩
def senderPausedDone : Sender := ⟨.paused, 33, 33, 0x77#16, 1⟩
def senderCounting : Sender := ⟨.run, 33, 24, 0x77#16, 3⟩
def senderMidway : Sender := ⟨.run, 33, 8, 0x77#16, 3⟩
def receiverUnseen : Receiver := { receiverPaused with burstSeen := false }
def receiverSpent : Receiver := { receiverPaused with allowance := 0 }
def receiverPausedAt33 : Receiver := { receiverPaused with held := 33 }
def receiverHeld : Receiver := { receiverCheck with hostHold := true }
def chairReceiving (r : Receiver) : ChairBlocks := chairWith (serving (receivingWork r)) seatReceiving
def chairSending (r : Sender) : ChairBlocks := chairWith (serving (sendingWork r))
/-- A chair whose queue holds two SEGMENT frames of transfer 77. -/
def chairOwnSegments (c : ChairBlocks) (source target : Nat) (b : Body) : State :=
  { chairHeard c source target b with
    line := { (lineWith .defer [segmentQueued 77 0, segmentQueued 77 8]).line with
      fifo := ⟨source, target, b⟩ :: laterBeacon } }
/-- A chair with a sender, its transmitter and its queue. -/
def lineSending (r : Sender) (tr : Transmitter) (q : List QueuedFrame) : State :=
  { lineWith tr q with blocks := .chair (chairSending r) }
/-- A DRIVE for machine 3, and a line on which a frame has been cut in its kind byte. -/
def driveQueued (e k n : Nat) : QueuedFrame := queued (driveBody e) 3 k n
def lineHearing : State :=
  { lineWith .defer [driveQueued 3 1 0] with
    line := { (lineWith .defer [driveQueued 3 1 0]).line with
      assembly := some ⟨[0xC3], [false, false]⟩, quiet := 0 } }
def lineAt (tr : Transmitter) (q : List QueuedFrame) (n : Nat) : Line := { (lineWith tr q).line with quiet := n }
/-- The line after 3 and after 32 bit times at the high level, and one whose last check byte is due. -/
def lineHeard3 : Line :=
  { lineHearing.line with assembly := some ⟨[0xC3], [false, false, true, true, true]⟩, quiet := 3 }
def lineCut : Line := { lineHearing.line with assembly := none, quiet := 32 }
/-- A HALT that waits on that line, and the line 8 bit times later, its cut frame still an assembly. -/
def lineHaltWaits : State := { lineHearing with line := { lineHearing.line with queue := [queued .halt 9 0 0] } }
def lineHaltStarts : Line := { lineHaltWaits.line with assembly := some ⟨[0xC3, 0x7F], []⟩, quiet := 8 }
def lineEnding : State :=
  { lineHearing with
    line := { lineHearing.line with assembly := some ⟨[0xC3, 0x1B, 9, 31, 0, 0xFF], [false]⟩ } }
/-- A line quiet for 17 bit times, and as it stands once a frame has been heard there. -/
def quietLine (fifo : List Frame) : Line := { testLine fifo with assembly := none }
def heardLine (fifo : List Frame) : Line := { quietLine fifo with quiet := 0 }
def quietStation (b : Blocks) (fifo : List Frame) : State := { stationWith b fifo with line := quietLine fifo }
/-- The bytes of a GRANT with a bit of its check inverted, and their levels. -/
def badBytes : List Byte := (frameBytes grantFrame).dropLast ++ [(frameBytes grantFrame).getLastD 0 ^^^ 1]
def badLevels : List Bool := badBytes.flatMap byteLevels
def segmentFrame : Frame := ⟨51, 9, .segment 77 255 16 [1, 2, 3]⟩
def witnessFrame : Frame := ⟨31, 44, .segment 77 2 0 [1, 2, 3]⟩
def beaconFrame9 : Frame := ⟨9, 63, .beacon .bound 3 3 zoneA 3 false 0⟩
def fiveFrames : List Frame := List.replicate 5 ownFrame
def eightFrames : List Frame := List.replicate 8 ownFrame
def seatUnnumbered : Seat := { seatSending with transfer := none }
def quietLine8 : Line := { quietLine [] with quiet := 8 }
def heardLine19 : Line := { quietLine laterBeacon with quiet := 19 }
def senderLast : Sender := ⟨.run, 33, 28, 0x77#16, 3⟩

/-! ### WellFormed: each check refuses an ill-formed term -/

theorem test_unknownCommand_with_assigned_code_refused :
    Instr.wellFormed (.unknownCommand 0x24 []) = false ∧ Instr.wellFormed (.unknownCommand 0x2A []) = true := by
  decide
theorem test_completeFrame_without_stop_bit_refused :
    Instr.wellFormed (.completeFrame [] false) = false
      ∧ Instr.wellFormed (.completeFrame (byteLevels 0xC2).dropLast false) = false
      ∧ Instr.wellFormed (.completeFrame (byteLevels 0xC3) false) = true := by decide
theorem test_backoffEnd_32_slots_refused :
    Instr.wellFormed (.backoffEnd 32) = false ∧ Instr.wellFormed (.backoffEnd 31) = true := by decide
theorem test_ageOut_of_no_machine_refused :
    Instr.wellFormed (.ageOut 0) = false ∧ Instr.wellFormed (.ageOut 61) = false
      ∧ Instr.wellFormed (.ageOut 60) = true := by decide

/-! ### Bytes, from the examples of spec/ -/

/-- The published check value of the CRC that R34 describes (all ones at the start, not reflected, not inverted).
-/
theorem test_crc_of_123456789 :
    crcBytes crcInit [0x31, 0x32, 0x33, 0x34, 0x35, 0x36, 0x37, 0x38, 0x39] = 0x29B1 := by decide +kernel
/-- 7.10, "a DRIVE from transmit queue to setpoint slot": its body, and the envelope before it. -/
theorem test_drive_bytes :
    (frameBytes ⟨9, 31, .drive 43 17 ⟨-40, 20, 0, 40, false⟩⟩).take 14
      = [0xC3, 0x02, 0x09, 0x1F, 0x09, 0x00, 0x2B, 0x11, 0xFF, 0xD8, 0x14, 0x00, 0x28, 0x00] := by
  decide +kernel
/-- R177: a SEAT SETPOINT speed of 0xFFD8 is −40, and a steer of 0x9C is −100. -/
theorem test_signed_parameters :
    (paramSetpoints [2, 0xFF, 0xD8, 0x9C, 0, 0x28, 0]) = ⟨-40, -100, 0, 40, false⟩ := by decide
/-- R177: the transaction of the SEAT SETPOINT of 7.10. -/
theorem test_transaction_of_seatSetpoint :
    commandOfTransaction [0x24, 2, 0xFF, 0xD8, 0x14, 0, 0x28, 0]
      = .seatSetpoint [2, 0xFF, 0xD8, 0x14, 0, 0x28, 0] := by decide
/-- R177: zone level 2, zone code 3.12.0, generation part 0, generation 7. -/
theorem test_fence_parameters :
    fenceZone 2 (3 * 512 + 12 * 16 + 5) = some (some (.level2 3 12))
      ∧ fenceGeneration 0 7 = some (some 7) := by decide

/-- R145: a byte goes out as a low start bit, its bits from the most significant on, and a high stop bit. -/
theorem test_levels_of_the_start_byte :
    byteLevels 0xC3 = [false, true, true, false, false, false, false, true, true, true] := by decide
/-- R176: SDI carries bytes most significant bit first, and a last byte of 7 clocks is not counted. -/
theorem test_command_on_sdi :
    commandOnSdi [false, false, true, false, true, false, false, true, false, false, false, false, false, false,
        true, true, true, true, true, true, true, true, true] = .seatRead [3]
      ∧ commandOnSdi [false, false, true, false, true, false, false] = .emptyTransaction := by decide
/-- R176: SDO carries the code, the data length, the data, and 0x00 for every further byte. -/
theorem test_response_bytes :
    (Response.clockedOut 4 ⟨.ok, [7]⟩) = [0, 1, 7, 0] := by decide

/-! ### The line -/

/-- R156: an assembly ends at a first byte other than 0xC3, at a body length above 40, at a low stop bit and at a
gap; and none begins before 8 quiet bit times. -/
theorem test_assembly_discarded :
    let heard (l : Line) (levels : List Bool) : Line := (l.receive levels).1
    (heard (quietLine []) (byteLevels 0xC2)).assembly = none
      ∧ (heard (quietLine []) (([0xC3, 0x1B, 9, 31, 41] : List Byte).flatMap byteLevels)).assembly = none
      ∧ (heard (quietLine []) (([0xC3, 0x1B, 9, 31, 40] : List Byte).flatMap byteLevels)).assembly
          = some ⟨[0xC3, 0x1B, 9, 31, 40], []⟩
      ∧ (heard (quietLine []) ((byteLevels 0xC3).dropLast ++ [false])).assembly = none
      ∧ (heard (quietLine []) (byteLevels 0xC3 ++ [true, true])).assembly = none
      ∧ (heard { quietLine [] with quiet := 7 } (byteLevels 0xC3)).assembly = none := by decide
/-- R142, R156: the quiet count runs on from the last low level where a gap discards an assembly, so a frame 8
quiet bit times after one cut short is heard. -/
theorem test_frame_heard_after_a_cut_frame :
    ((quietLine []).receive (byteLevels 0xC3 ++ List.replicate 5 true ++ frameLevels releaseFrame)).2
        = some (frameBytes releaseFrame)
      ∧ ((quietLine []).receive (byteLevels 0xC3 ++ List.replicate 4 true ++ frameLevels releaseFrame)).2
        = none := by decide +kernel
/-- R149: a slot over a quiet line after a mismatch ends with the quiet count at 32, and a frame of class 2 starts.
-/
theorem test_slot_over_a_quiet_line :
    let t := after .mismatch { lineHearing with
      line := { lineHearing.line with transmitter := .sending, queue := [queued (.release 5) 22 1 0] } }
    t.line.queue.map (·.slots) = [2]
      ∧ ((after (.backoffEnd 2) t).line.stayHigh 64).map (·.quiet) = some 64
      ∧ (after (.frameStart 64) (after (.backoffEnd 2) t)).lte = true := by decide +kernel
/-- R146, R147: a HALT starts 8 quiet bit times after a frame cut early in a byte. -/
theorem test_halt_starts_after_8 :
    (after (.frameStart 7) lineHaltWaits).lte = false ∧ (after (.frameStart 8) lineHaltWaits).lte = true := by
  decide +kernel
/-- R204: a checked frame of the own number is a clash in LISTEN, whoever is said to have driven it. -/
theorem test_clash_in_listen :
    (after (.completeFrame (frameLevels ownFrame) true)
      (inStation .listen (quietStation (.chair (chairWith engineIdle)) []))).station = .setup := by decide +kernel
/-- R91, R92: the ASK is repeated with the terms it first carried, which are then the last admitted ones. -/
theorem test_askRepeat_terms :
    let t := after (.askRepeat 2) (stationWith (.chair chairReasks) [])
    (t.line.queue.getLast?.map (·.frame.body)) = some (.ask seatAsking.asked)
      ∧ (match t.blocks with
        | .chair c => some (c.seats.get 2).lastAdmitted
        | _ => none) = some seatAsking.asked := by decide +kernel

/-- R145, R146: an attempt carries the levels of the head frame on LTX, with LTE asserted. -/
theorem test_frameStart_drives_the_line :
    let t := after (.frameStart 40) (lineWith .defer [queued (.release 5) 22 0 0])
    t.lte = true ∧ t.line.driven.take 10 = byteLevels 0xC3 ∧ t.line.driven.length = 90 := by decide +kernel

/-- R149: the seed of station 5 and its first three draws. -/
theorem test_draws_of_station_5 :
    generatorSeed 5 = 0x0505 ∧ generatorStep 0x0505 = 0xB682 ∧ generatorStep 0xB682 = 0x5B41
      ∧ generatorStep 0x5B41 = 0x99A0 := by decide
/-- 6.6: the mismatch of chair 5's ASK: one collision, no slots, DEFER. -/
theorem test_mismatch_of_chair_5 :
    let t := after .mismatch (lineWith .sending [queued (.ask termsA) 31 0 0])
    t.line.generator = 0xB682 ∧ t.line.transmitter = .defer
      ∧ t.line.queue = [queued (.ask termsA) 31 1 0] := by decide +kernel
/-- R143: 7,812.5 bit/s lies outside the bounds and 1,000,000 bit/s inside. -/
theorem test_rate_bounds :
    rateSupported 16000 1 7 = false ∧ rateSupported 16000 1 0 = true ∧ rateSupported 16000 5 4 = true
      ∧ rateSupported 16000 5 5 = false := by decide
/-- R144: a pair out of its bounds at a new clock returns to 1, 3. -/
theorem test_setClock_replaces_the_pair :
    let t := after (.setClock [0x0F, 0xA0])
      { State.reset with config := { Configuration.reset with prescaler := 10, select := 3 } }
    t.config.clock = 4000 ∧ t.config.prescaler = 1 ∧ t.config.select = 3 ∧ t.port.response.code = .ok := by
  decide +kernel
/-- R202: a beacon period of 255 ms and L = 12. -/
theorem test_setTiming_clamps :
    let t := after (.setTiming [0, 255, 0, 50, 0, 100, 12, 10, 20, 1, 44, 7, 208]) State.reset
    t.config.beaconPeriod = 250 ∧ t.config.missLimit = 8 ∧ t.port.response.code = .adjusted := by
  decide +kernel
theorem test_setRole_unset_refused :
    (after (.setRole [0]) State.reset).port.response.code = .badParameter := by decide +kernel

/-! ### The ceiling: R67, R71, 3.10 -/

/-- Machine 31 of 3.10: an admitted limit of 120, a zone limit of 90, `m` misses. -/
def ceilingCase (st : BindingState) (m : Nat) : Binding :=
  { bindingIn st with
    misses := m, admittedRights := ⟨true, true, true, true⟩, admittedLimit := 120, contextCap := 250
    zoneResult := ⟨⟨true, true, true, true⟩, 90, false⟩ }
/-- The gate of 3.10 at ramp count `n` with a held speed. -/
def ceilingGate (n : Nat) (speed : Int) : DriveGate :=
  { DriveGate.reset with
    held := ⟨⟨speed, 0, 0, 0, false⟩, some 1, some 0⟩, ramp := some ⟨67, n, 0, 0⟩ }
/-- R67: Bd for B = 90, L = 4, and for B = 250, L = 8. -/
theorem test_degraded_ceiling :
    degraded 4 (ceilingCase .bound 1) = 67 ∧ degraded 4 (ceilingCase .bound 2) = 45
      ∧ degraded 4 (ceilingCase .bound 3) = 22
      ∧ degraded 8 { ceilingCase .bound 3 with
          admittedLimit := 250, zoneResult := ⟨⟨true, true, true, true⟩, 250, false⟩ } = 156 := by decide
/-- 3.10 at 1.2 s: R = 47, Bd = 45, E = 45, Er = 22, speed out 45. -/
theorem test_ceiling_in_transfer :
    let g := (ceilingGate 2 80).recompute Configuration.reset (ceilingCase (.transfer transfer77) 2)
    g.ceiling = 45 ∧ g.reverse = 22 ∧ g.outputs.speed = 45 ∧ g.driveEnable = true := by decide
/-- 3.10 at 3.2 s: R = 15, E = 15, Er = 7, a demand of −40 gives −7. -/
theorem test_ceiling_at_the_crawl_floor :
    let g := (ceilingGate 6 (-40)).recompute Configuration.reset (ceilingCase (.transfer transfer77) 0)
    g.ceiling = 15 ∧ g.reverse = 7 ∧ g.outputs.speed = -7 := by decide
/-- 3.10 after the commit: E = 90, Er = 45, −40 passes whole. -/
theorem test_ceiling_after_the_commit :
    let g := ({ ceilingGate 0 (-40) with ramp := none } : DriveGate).recompute Configuration.reset
      { ceilingCase .bound 0 with admittedLimit := 100, contextCap := 110 }
    g.ceiling = 90 ∧ g.reverse = 45 ∧ g.outputs.speed = -40 := by decide

/-! ### Zones: the example of chapter 5 -/

/-- Machine 31's table and generation 7 (entries 3 and 4 of the top table, 12 to 14 of crosscut table 2, 0
and 5 of drawpoint table 5). -/
def exampleZones (cache : List CacheEntry) : Zones :=
  ⟨[(3, .branch 2), (4, .leaf ⟨true, true, false, false⟩ 120 false), (92, .branch 5),
    (93, .leaf ⟨true, true, false, false⟩ 60 false), (94, .leaf ⟨true, true, true, true⟩ 80 false),
    (864, .leaf ⟨true, true, false, false⟩ 40 true), (869, .leaf ⟨true, true, true, true⟩ 90 false)], 7, cache⟩
/-- POSITION 3.12.5: the walk ends at drawpoint table 5, entry 5, and fills 3.12.5. -/
theorem test_walk_to_a_drawpoint :
    (exampleZones []).lookup ⟨3, 12, 5⟩
      = (⟨none, ⟨true, true, true, true⟩, 90, false, some (.level3 3 12 5), false⟩,
          exampleZones [⟨.level3 3 12 5, 7, ⟨⟨true, true, true, true⟩, 90, false⟩⟩]) := by decide +kernel
/-- ZONE FENCE ALL, generation 7: 3.12.5 g7 and 3.14.* g7 go, the global 3.12.0 g7 and 3.12.5 g8 stay. -/
theorem test_fence_of_generation_7 :
    let g : CacheEntry := ⟨.level3 3 12 0, 7, ⟨⟨true, true, false, false⟩, 40, true⟩⟩
    let e (n : Nat) : CacheEntry := ⟨.level3 3 12 5, n, ⟨⟨true, true, true, true⟩, 90, false⟩⟩
    ((exampleZones [e 7, ⟨.level2 3 14, 7, ⟨Rights.empty, 0, false⟩⟩, g, e 8]).fence none (some 7)).cache
      = [g, e 8] := by decide +kernel
/-- R132: a fence on 3.12.* removes a cached 3.*.* and a cached 3.12.5. -/
theorem test_fence_overlaps :
    overlaps (.level1 3) (.level2 3 12) = true ∧ overlaps (.level3 3 12 5) (.level2 3 12) = true
      ∧ overlaps (.level2 3 14) (.level2 3 12) = false := by decide

/-! ### The transfer: 2.7 -/

/-- 2.7, SEGMENT(1, 16, 4) after a segment lost: HOLD(1), STOP(1), GO(2, 8). -/
theorem test_receiver_recovers :
    let a : ActiveTransfer := ⟨3, 31, 7, 5, 20, 1, .receiver ⟨.run, 8, 0, true, 3, false, false⟩⟩
    let s := chairEmptyQueue (chairWith (serving a) seatReceiving) 5 7 (.segment 7 1 16 [1, 2, 3, 4])
    (after .receiverSegment s).line.queue.map (·.frame.body)
      = [.hold 7 1, .stop 7 1, .go 7 2 8] := by decide +kernel
/-- 2.7, GO(2, 8) at the sender of 20 words: SEGMENT(2, 8, 8), SEGMENT(2, 16, 4), then SUM. -/
theorem test_sender_starts_a_burst :
    let a : ActiveTransfer := ⟨3, 31, 7, 9, 20, 1, .sender ⟨.wait, 20, 20, 0x77, 0⟩⟩
    let s := chairEmptyQueue (chairWith (serving a)) 9 7 (.go 7 2 8)
    ((after .go s).line.queue.map fun e => match e.frame.body with
        | .segment t b i ws => (t, b, i, ws.length)
        | .sum t l _ => (t, 0, l, 0)
        | _ => (0, 0, 0, 0)) = [(7, 2, 8, 8), (7, 2, 16, 4), (7, 0, 20, 0)] := by decide +kernel

/-! ### Sessions at the port: chapter 8 -/

/-- Transaction 6 of the session at chair 9: SEIZE without a record. -/
theorem test_seize_without_arm :
    (after (.seize [24]) (chairHeard { chairWith engineIdle with armed := none } 9 7 .halt)).port.response.code
      = .notArmed := by decide +kernel
/-- Transaction 8: SEIZE of the machine armed occupies the lowest-numbered FREE seat. -/
theorem test_seize_after_arm :
    let t := after (.seize [24]) (chairHeard (chairWith engineIdle) 9 7 .halt)
    t.port.response = ⟨.ok, [0]⟩ ∧ t.armed = none := by decide +kernel
/-- Transaction 1: STATUS READ of a chair at station 9 with the default rate, overrun set, 32 notices. -/
theorem test_statusRead_record :
    let s : State := { State.reset with
      station := .online, config := { Configuration.reset with station := 9 }, blocks := .chair ChairBlocks.reset
      notices := ⟨List.replicate 32 ⟨.clash, none, 9, .none, 1⟩, true, false⟩ }
    (after (.statusRead []) s).port.response = ⟨.ok, [2, 1, 9, 1, 3, 0x02, 32, 0]⟩
      ∧ (after (.statusRead []) s).notices.clearStep = true := by decide +kernel

/-! ### The invariants -/

/-- A chair at work, with a command of each kind of sender waiting. -/
theorem witness_StepKeepsSeatsApart :
    SeatsApart { chairHeard (chairWith engineIdle) 22 7 (.grant 44 zoneA) with pending := [.grant] }
      ∧ SeatsApart State.reset := by
  refine ⟨⟨?_, ?_⟩, ⟨?_, ?_⟩⟩
  · intro c h; cases h; decide
  · intro c h; cases h; intro m h; cases h; decide
  · intro c h; cases h
  · intro c h; cases h
theorem witness_StepKeepsBuffersBounded :
    BuffersBounded { fifoFull with pending := [.completeFrame (frameLevels grantFrame) false] }
      ∧ BuffersBounded { lineWith .defer eightReleases with pending := [.drivePeriodExpiry] } := by
  refine ⟨⟨by decide, by decide, by decide, by decide, by decide, ?_⟩,
    ⟨by decide, by decide, by decide, by decide, by decide, ?_⟩⟩
  all_goals intro c h; cases h; decide
theorem witness_StepKeepsStoresCanonical :
    StoresCanonical { chairHeard (chairWith (serving (receivingWork receiverRun)) seatReceiving) 51 7
      (.segment 77 255 16 [1, 2, 3]) with pending := [.receiverSegment] } := by
  refine ⟨by decide, ?_⟩
  intro c h; cases h; decide
theorem witness_StepKeepsTheGateSound :
    GateSound { machineHeard (.transfer transfer77) 31 (.drive 65535 8 reverseDemand) with pending := [.drive] }
      ∧ GateSound { inStation .listen (stationWith (.machine
          ⟨Binding.reset, DriveGate.reset.recompute testConfig Binding.reset⟩) []) with
        pending := [.listenTimerExpiry] } := by
  refine ⟨⟨?_, ?_⟩, ⟨?_, ?_⟩⟩
  · intro m h; cases h; constructor <;> first | rfl | decide
  · intro m _ h; exact absurd rfl h
  · intro m h; cases h; constructor <;> first | rfl | decide
  · intro m h _; cases h; exact ⟨rfl, rfl, rfl⟩
theorem witness_SoftResetKeepsWhatTheRulesKeep :
    State.reset.station = .setup ∧ unzonedStation.station ≠ .setup
      ∧ unzonedStation.blocks = .machine machineUnzoned
      ∧ (chairHeard (chairWith engineIdle) 9 7 .halt).blocks = .chair (chairWith engineIdle) := by
  refine ⟨rfl, by decide, rfl, rfl⟩
theorem witness_ReverseCeiling :
    (250 : Nat) ≤ 250 ∧ ({ testConfig with reverseRatio := 8 } : Configuration).reverseRatio = 8
      ∧ ({ testConfig with reverseRatio := 4 } : Configuration).reverseRatio = 4
      ∧ 2 * testConfig.reverseRatio < 8
      ∧ ({ testConfig with reverseRatio := 1 } : Configuration).reverseRatio = 1 := by decide

/-! ### Witnesses: each group meets together the hypotheses of one clause -/

theorem grantFrame_judged : judgeFrame (frameBytes grantFrame) = some grantFrame := by decide +kernel
theorem ownFrame_judged : judgeFrame (frameBytes ownFrame) = some ownFrame := by decide +kernel
theorem releaseFrame_judged : judgeFrame (frameBytes releaseFrame) = some releaseFrame := by decide +kernel
theorem segmentFrame_judged : judgeFrame (frameBytes segmentFrame) = some segmentFrame := by decide +kernel
theorem witnessFrame_judged : judgeFrame (frameBytes witnessFrame) = some witnessFrame := by decide +kernel
theorem beaconFrame9_judged : judgeFrame (frameBytes beaconFrame9) = some beaconFrame9 := by decide +kernel
theorem badBytes_judged : judgeFrame badBytes = none := by decide +kernel
theorem badBytes_heard :
    (quietLine laterBeacon).receive badLevels = (heardLine laterBeacon, some badBytes) := by decide +kernel
theorem grantFrame_on_laterBeacon : (quietLine laterBeacon).receive (frameLevels grantFrame)
    = (heardLine laterBeacon, some (frameBytes grantFrame)) := by decide +kernel
theorem grantFrame_on_fiveFrames : (quietLine fiveFrames).receive (frameLevels grantFrame)
    = (heardLine fiveFrames, some (frameBytes grantFrame)) := by decide +kernel
theorem grantFrame_on_eightFrames : (quietLine eightFrames).receive (frameLevels grantFrame)
    = (heardLine eightFrames, some (frameBytes grantFrame)) := by decide +kernel
theorem ownFrame_on_laterBeacon : (quietLine laterBeacon).receive (frameLevels ownFrame)
    = (heardLine laterBeacon, some (frameBytes ownFrame)) := by decide +kernel
theorem segmentFrame_on_laterBeacon : (quietLine laterBeacon).receive (frameLevels segmentFrame)
    = (heardLine laterBeacon, some (frameBytes segmentFrame)) := by decide +kernel
theorem segmentFrame_on_fiveFrames : (quietLine fiveFrames).receive (frameLevels segmentFrame)
    = (heardLine fiveFrames, some (frameBytes segmentFrame)) := by decide +kernel
theorem beaconFrame9_on_laterBeacon : (quietLine laterBeacon).receive (frameLevels beaconFrame9)
    = (heardLine laterBeacon, some (frameBytes beaconFrame9)) := by decide +kernel
theorem witnessFrame_on_laterBeacon : (quietLine laterBeacon).receive (frameLevels witnessFrame)
    = (heardLine laterBeacon, some (frameBytes witnessFrame)) := by decide +kernel
theorem releaseFrame_on_laterBeacon : (quietLine laterBeacon).receive (frameLevels releaseFrame)
    = (heardLine laterBeacon, some (frameBytes releaseFrame)) := by decide +kernel
theorem segmentFrame_not_kept :
    ¬ (quietStation (.chair (chairWith engineIdle)) laterBeacon).keepsFrame segmentFrame := by
  rintro (⟨m, h, -⟩ | ⟨c, h, k | k | ⟨a, h', -⟩ | ⟨p, h', -⟩⟩) <;> cases h <;>
    first | (revert k; decide) | cases h'

theorem witness_StepRunsFrontCommand :
    queuedStation.pending = [Instr.hardReset, Instr.start []] ∧
    State.reset.pending = [] :=
  ⟨rfl, rfl⟩

theorem witness_TransactionsReadBack :
    ((Instr.unknownCommand 112#8 [1#8]).transactionBytes = some [112#8, 1#8] ∧ (Instr.unknownCommand 112#8
      [1#8]).wellFormed = true) ∧
    ((Instr.seatRead [2#8]).transactionBytes = some [41#8, 2#8] ∧ (Instr.seatRead [2#8]).wellFormed = true ∧
      [true, false, true, true, false, true, true].length < 8) ∧
    (Instr.emptyTransaction.transactionBytes = some [] ∧ Instr.emptyTransaction.wellFormed = true ∧
      [true].length < 8) ∧
    (0 < [true, false, true, true, false, true, true, false, true].length / 8 ∧ 7 < 8) ∧
    4 < 5 ∧
    (0 < 5 ∧ 7 < 8) :=
  ⟨⟨rfl, rfl⟩, ⟨rfl, rfl, by decide⟩, ⟨rfl, rfl, by decide⟩, ⟨by decide, by decide⟩, by decide, ⟨by decide,
    by decide⟩⟩

theorem witness_RefusedCommandChangesNothingElse :
    ((availability (Instr.start [])).isSome = true ∧ exec (.start []) State.reset = .next (after (.start [])
      State.reset) ∧ accepted (after (.start []) State.reset).port.response.code = false) ∧
    ((availability (Instr.contextWrite [3, 0, 2, 2, 0, 40, 1, 2, 3, 4])).isSome = true ∧ exec (.contextWrite [3,
      0, 2, 2, 0, 40, 1, 2, 3, 4]) (chairHeard (chairWith (serving (sendingWork senderRun))) 9 7 .halt) = .next
      (after (.contextWrite [3, 0, 2, 2, 0, 40, 1, 2, 3, 4]) (chairHeard (chairWith (serving (sendingWork
      senderRun))) 9 7 .halt)) ∧ accepted (after (.contextWrite [3, 0, 2, 2, 0, 40, 1, 2, 3, 4]) (chairHeard
      (chairWith (serving (sendingWork senderRun))) 9 7 .halt)).port.response.code = false) :=
  ⟨⟨rfl, rfl, rfl⟩, ⟨rfl, rfl, rfl⟩⟩

theorem witness_TransactionsAndTheirSharedChecks :
    (availability (Instr.zoneRead [0, 0]) = some
      { inSetup := true, inListen := true, inOnline := true, role := none } ∧ parametersPresent (Instr.zoneRead
      [0, 0]) = false) ∧
    (availability (Instr.setRole [1]) = some
      { inSetup := true, inListen := false, inOnline := false, role := none } ∧ parametersPresent (Instr.setRole
      [1]) = true ∧ ({ inSetup := true, inListen := false, inOnline := false, role := none } :
      Availability).inState (chairHeard (chairWith engineIdle) 9 7 .halt).station = false) ∧
    (availability (Instr.localHalt []) = some
      { inSetup := false, inListen := false, inOnline := true, role := some Role.machine } ∧ parametersPresent
      (Instr.localHalt []) = true ∧
      ({ inSetup := false, inListen := false, inOnline := true, role := some Role.machine } :
      Availability).inState (chairHeard (chairWith engineIdle) 9 7 .halt).station = true ∧
      ({ inSetup := false, inListen := false, inOnline := true, role := some Role.machine } :
      Availability).inRole (chairHeard (chairWith engineIdle) 9 7 .halt).role = false) ∧
    (availability (Instr.seatRead [4]) = some
      { inSetup := false, inListen := false, inOnline := true, role := some Role.chair } ∧ parametersPresent
      (Instr.seatRead [4]) = true ∧
      ({ inSetup := false, inListen := false, inOnline := true, role := some Role.chair } :
      Availability).inState (chairHeard (chairWith engineIdle) 9 7 .halt).station = true ∧
      ({ inSetup := false, inListen := false, inOnline := true, role := some Role.chair } : Availability).inRole
      (chairHeard (chairWith engineIdle) 9 7 .halt).role = true ∧ seatNamed (Instr.seatRead [4]) = some 4 ∧ 3 <
      4) ∧
    assignedCodes.contains (110#8).toNat = false :=
  ⟨⟨rfl, rfl⟩, ⟨rfl, rfl, rfl⟩, ⟨rfl, rfl, rfl, rfl⟩, ⟨rfl, rfl, rfl, rfl, rfl, by decide⟩, rfl⟩

theorem witness_StatusReadThenNoticeRead :
    exec (.statusRead []) (chairHeard (chairWith engineIdle) 9 7 .halt) = .next (after (.statusRead [])
      (chairHeard (chairWith engineIdle) 9 7 .halt)) ∧ exec (.noticeRead []) (after (.statusRead []) (chairHeard
      (chairWith engineIdle) 9 7 .halt)) = .next (after (.noticeRead []) (after (.statusRead []) (chairHeard
      (chairWith engineIdle) 9 7 .halt))) :=
  ⟨rfl, rfl⟩

theorem witness_ReadsChangeNothing :
    ((machineHeard .bound 31 .halt).station ≠ StationState.setup ∧ (machineHeard .bound 31 .halt).blocks =
      Blocks.machine (machineIn .bound)) ∧
    ((chairHeard (chairWith engineIdle) 9 7 .halt).station = StationState.online ∧ (chairHeard (chairWith
      engineIdle) 9 7 .halt).blocks = Blocks.chair (chairWith engineIdle) ∧ 1 ≤ ([3] : List Byte).length ∧ param
      [3] 0 ≤ 3) ∧
    ((chairHeard (chairWith engineIdle) 9 7 .halt).station = StationState.online ∧ (chairHeard (chairWith
      engineIdle) 9 7 .halt).blocks = Blocks.chair (chairWith engineIdle) ∧ 1 ≤ ([31] : List Byte).length ∧
      param [31] 0 ≤ 31) ∧
    ((chairHeard (chairWith engineIdle) 9 7 .halt).station = StationState.online ∧ (chairHeard (chairWith
      engineIdle) 9 7 .halt).blocks = Blocks.chair (chairWith engineIdle) ∧ 4 ≤ ([3, 1, 112, 16] : List
      Byte).length ∧ param [3, 1, 112, 16] 0 ≤ 3 ∧ 1 ≤ param [3, 1, 112, 16] 3 ∧ param [3, 1, 112, 16] 3 ≤ 16 ∧
      param2 [3, 1, 112, 16] 1 + param [3, 1, 112, 16] 3 ≤ 384) :=
  ⟨⟨by decide, rfl⟩, ⟨rfl, rfl, by decide, by decide⟩, ⟨rfl, rfl, by decide, by decide⟩, ⟨rfl, rfl, by decide,
    by decide, by decide, by decide, by decide⟩⟩

theorem witness_SetRoleStationClockAndRate :
    (State.reset.station = StationState.setup ∧ 1 ≤ ([1] : List Byte).length ∧ param [1] 0 = 1 ∧
      State.reset.role ≠ Role.chair) ∧
    ((inStation .setup (chairHeard (chairWith engineIdle) 9 7 .halt)).station = StationState.setup ∧ 1 ≤ ([2] :
      List Byte).length ∧ param [2] 0 = 2 ∧ (inStation .setup (chairHeard (chairWith engineIdle) 9 7
      .halt)).role ≠ Role.machine) ∧
    ((inStation .setup (chairHeard (chairWith engineIdle) 9 7 .halt)).station = StationState.setup ∧ 1 ≤ ([1] :
      List Byte).length ∧ param [1] 0 = roleByte (inStation .setup (chairHeard (chairWith engineIdle) 9 7
      .halt)).role ∧ param [1] 0 ≠ 0) ∧
    ((inStation .setup (chairHeard (chairWith engineIdle) 9 7 .halt)).station = StationState.setup ∧ 1 ≤ ([3] :
      List Byte).length ∧ (param [3] 0 = 0 ∨ 2 < param [3] 0)) ∧
    (State.reset.station = StationState.setup ∧ 1 ≤ ([0] : List Byte).length ∧ (param [0] 0 = 0 ∨ 2 < param [0]
      0)) ∧
    (State.reset.station = StationState.setup ∧ 1 ≤ ([1] : List Byte).length ∧ 1 ≤ param [1] 0 ∧ param [1] 0 ≤
      60) ∧
    (State.reset.station = StationState.setup ∧ 1 ≤ ([60] : List Byte).length ∧ 1 ≤ param [60] 0 ∧ param [60] 0
      ≤ 60) ∧
    (State.reset.station = StationState.setup ∧ 1 ≤ ([61] : List Byte).length ∧ (param [61] 0 = 0 ∨ 60 < param
      [61] 0)) ∧
    (State.reset.station = StationState.setup ∧ 1 ≤ ([0] : List Byte).length ∧ (param [0] 0 = 0 ∨ 60 < param [0]
      0)) ∧
    (State.reset.station = StationState.setup ∧ 2 ≤ ([125, 1] : List Byte).length) ∧
    (State.reset.station = StationState.setup ∧ 2 ≤ ([1, 6] : List Byte).length ∧ rateSupported
      State.reset.config.clock (param [1, 6] 0) (param [1, 6] 1) = true) ∧
    (State.reset.station = StationState.setup ∧ 2 ≤ ([1, 7] : List Byte).length ∧ rateSupported
      State.reset.config.clock (param [1, 7] 0) (param [1, 7] 1) = false) :=
  ⟨⟨rfl, by decide, rfl, by decide⟩, ⟨rfl, by decide, rfl, by decide⟩, ⟨rfl, by decide, rfl, by decide⟩, ⟨rfl,
    by decide, by decide⟩, ⟨rfl, by decide, by decide⟩, ⟨rfl, by decide, by decide, by decide⟩, ⟨rfl, by decide,
    by decide, by decide⟩, ⟨rfl, by decide, by decide⟩, ⟨rfl, by decide, by decide⟩, ⟨rfl, by decide⟩, ⟨rfl,
    by decide, rfl⟩, ⟨rfl, by decide, rfl⟩⟩

theorem witness_SetTimingRampAndStrobe :
    (State.reset.station = StationState.setup ∧ 13 ≤ ([0, 255, 0, 20, 0, 20, 12, 1, 2, 0, 100, 1, 244] : List
      Byte).length) ∧
    (State.reset.station = StationState.setup ∧ 5 ≤ ([3, 232, 31, 50, 8] : List Byte).length) ∧
    (State.reset.station = StationState.setup ∧ 2 ≤ ([127, 0] : List Byte).length ∧ (param [127, 0] 1 = 0 ∧
      Polarity.activeHigh = Polarity.activeHigh ∨ param [127, 0] 1 = 1 ∧ Polarity.activeHigh =
      Polarity.activeLow)) ∧
    (State.reset.station = StationState.setup ∧ 2 ≤ ([128, 1] : List Byte).length ∧ (param [128, 1] 1 = 0 ∧
      Polarity.activeLow = Polarity.activeHigh ∨ param [128, 1] 1 = 1 ∧ Polarity.activeLow = Polarity.activeLow)
      ∧ exec (.setStrobe [128, 1]) State.reset = .next (after (.setStrobe [128, 1]) State.reset) ∧
      State.reset.strobing = false) ∧
    (State.reset.station = StationState.setup ∧ 2 ≤ ([127, 2] : List Byte).length ∧ 1 < param [127, 2] 1) :=
  ⟨⟨rfl, by decide⟩, ⟨rfl, by decide⟩, ⟨rfl, by decide, by decide⟩, ⟨rfl, by decide, by decide, rfl, rfl⟩, ⟨rfl,
    by decide, by decide⟩⟩

theorem witness_StartListensThenGoesOnline :
    ((inStation .setup (chairHeard (chairWith engineIdle) 9 7 .halt)).station = StationState.setup ∧ (inStation
      .setup (chairHeard (chairWith engineIdle) 9 7 .halt)).role ≠ Role.unset ∧ (inStation .setup (chairHeard
      (chairWith engineIdle) 9 7 .halt)).config.station ≠ 0) ∧
    (State.reset.station = StationState.setup ∧ (State.reset.role = Role.unset ∨ State.reset.config.station =
      0)) ∧
    (noNumber.station = StationState.setup ∧ (noNumber.role = Role.unset ∨ noNumber.config.station = 0)) ∧
    (listenC.station = StationState.listen ∧ listenC.listenTimer = some 1000 ∧ listenC.blocks = Blocks.chair
      (chairWith engineIdle)) ∧
    (listenM.station = StationState.listen ∧ listenM.listenTimer = some 1000 ∧ listenM.blocks = Blocks.machine
      machineUnzoned ∧ machineUnzoned.binding.machineZone = none) ∧
    ((listenZoned (machineIn .unbound)).station = StationState.listen ∧ (listenZoned (machineIn
      .unbound)).listenTimer = some 1000 ∧ (listenZoned (machineIn .unbound)).blocks = Blocks.machine (machineIn
      .unbound) ∧ (machineIn .unbound).binding.machineZone = some zoneA) ∧
    ((listenZoned machineLost).station = StationState.listen ∧ (listenZoned machineLost).listenTimer = some 1000
      ∧ (listenZoned machineLost).blocks = Blocks.machine machineLost ∧ machineLost.binding.machineZone = some
      zoneN) :=
  ⟨⟨rfl, by decide, by decide⟩, ⟨rfl, by decide⟩, ⟨rfl, by decide⟩, ⟨rfl, rfl, rfl⟩, ⟨rfl, rfl, rfl, rfl⟩, ⟨rfl,
    rfl, rfl, rfl⟩, ⟨rfl, rfl, rfl, rfl⟩⟩

theorem witness_ZoneWriteStoresTheEntry :
    (7 ≤ ([0, 0, 15, 0, 0, 0, 0] : List Byte).length ∧ storeWf ZoneEntry.absent (chairHeard (chairWith
      engineIdle) 9 7 .halt).zones.table = true ∧ (param [0, 0, 15, 0, 0, 0, 0] 0 = 0 ∧ param [0, 0, 15, 0, 0,
      0, 0] 1 = 0 ∧ param [0, 0, 15, 0, 0, 0, 0] 2 < 16 ∧ 15 = param [0, 0, 15, 0, 0, 0, 0] 2 ∨ param [0, 0, 15,
      0, 0, 0, 0] 0 = 1 ∧ param [0, 0, 15, 0, 0, 0, 0] 1 < 24 ∧ param [0, 0, 15, 0, 0, 0, 0] 2 < 32 ∧ 15 = 16 +
      param [0, 0, 15, 0, 0, 0, 0] 1 * 32 + param [0, 0, 15, 0, 0, 0, 0] 2 ∨ param [0, 0, 15, 0, 0, 0, 0] 0 = 2
      ∧ param [0, 0, 15, 0, 0, 0, 0] 1 < 48 ∧ param [0, 0, 15, 0, 0, 0, 0] 2 < 16 ∧ 15 = 784 + param [0, 0, 15,
      0, 0, 0, 0] 1 * 16 + param [0, 0, 15, 0, 0, 0, 0] 2) ∧ (param [0, 0, 15, 0, 0, 0, 0] 3 = 0 ∧
      ZoneEntry.absent = ZoneEntry.absent ∨ param [0, 0, 15, 0, 0, 0, 0] 3 = 1 ∧ ZoneEntry.absent =
      ZoneEntry.leaf (rightsOf (([0, 0, 15, 0, 0, 0, 0] : List Byte).getD 4 0)) (min (param [0, 0, 15, 0, 0, 0,
      0] 5) 250) (BitVec.getLsbD (([0, 0, 15, 0, 0, 0, 0] : List Byte).getD 6 0) 0) ∨ param [0, 0, 15, 0, 0, 0,
      0] 3 = 2 ∧ ZoneEntry.absent = ZoneEntry.branch (param [0, 0, 15, 0, 0, 0, 0] 4))) ∧
    (7 ≤ ([1, 23, 31, 1, 7, 251, 1] : List Byte).length ∧ storeWf ZoneEntry.absent (chairHeard (chairWith
      engineIdle) 9 7 .halt).zones.table = true ∧ (param [1, 23, 31, 1, 7, 251, 1] 0 = 0 ∧ param [1, 23, 31, 1,
      7, 251, 1] 1 = 0 ∧ param [1, 23, 31, 1, 7, 251, 1] 2 < 16 ∧ 783 = param [1, 23, 31, 1, 7, 251, 1] 2 ∨
      param [1, 23, 31, 1, 7, 251, 1] 0 = 1 ∧ param [1, 23, 31, 1, 7, 251, 1] 1 < 24 ∧ param [1, 23, 31, 1, 7,
      251, 1] 2 < 32 ∧ 783 = 16 + param [1, 23, 31, 1, 7, 251, 1] 1 * 32 + param [1, 23, 31, 1, 7, 251, 1] 2 ∨
      param [1, 23, 31, 1, 7, 251, 1] 0 = 2 ∧ param [1, 23, 31, 1, 7, 251, 1] 1 < 48 ∧ param [1, 23, 31, 1, 7,
      251, 1] 2 < 16 ∧ 783 = 784 + param [1, 23, 31, 1, 7, 251, 1] 1 * 16 + param [1, 23, 31, 1, 7, 251, 1] 2) ∧
      (param [1, 23, 31, 1, 7, 251, 1] 3 = 0 ∧ ZoneEntry.leaf ⟨true, true, true, false⟩ 250 true =
      ZoneEntry.absent ∨ param [1, 23, 31, 1, 7, 251, 1] 3 = 1 ∧ ZoneEntry.leaf ⟨true, true, true, false⟩ 250
      true = ZoneEntry.leaf (rightsOf (([1, 23, 31, 1, 7, 251, 1] : List Byte).getD 4 0)) (min (param [1, 23,
      31, 1, 7, 251, 1] 5) 250) (BitVec.getLsbD (([1, 23, 31, 1, 7, 251, 1] : List Byte).getD 6 0) 0) ∨ param
      [1, 23, 31, 1, 7, 251, 1] 3 = 2 ∧ ZoneEntry.leaf ⟨true, true, true, false⟩ 250 true = ZoneEntry.branch
      (param [1, 23, 31, 1, 7, 251, 1] 4))) ∧
    (7 ≤ ([2, 47, 15, 2, 255, 0, 0] : List Byte).length ∧ storeWf ZoneEntry.absent (chairHeard (chairWith
      engineIdle) 9 7 .halt).zones.table = true ∧ (param [2, 47, 15, 2, 255, 0, 0] 0 = 0 ∧ param [2, 47, 15, 2,
      255, 0, 0] 1 = 0 ∧ param [2, 47, 15, 2, 255, 0, 0] 2 < 16 ∧ 1551 = param [2, 47, 15, 2, 255, 0, 0] 2 ∨
      param [2, 47, 15, 2, 255, 0, 0] 0 = 1 ∧ param [2, 47, 15, 2, 255, 0, 0] 1 < 24 ∧ param [2, 47, 15, 2, 255,
      0, 0] 2 < 32 ∧ 1551 = 16 + param [2, 47, 15, 2, 255, 0, 0] 1 * 32 + param [2, 47, 15, 2, 255, 0, 0] 2 ∨
      param [2, 47, 15, 2, 255, 0, 0] 0 = 2 ∧ param [2, 47, 15, 2, 255, 0, 0] 1 < 48 ∧ param [2, 47, 15, 2, 255,
      0, 0] 2 < 16 ∧ 1551 = 784 + param [2, 47, 15, 2, 255, 0, 0] 1 * 16 + param [2, 47, 15, 2, 255, 0, 0] 2) ∧
      (param [2, 47, 15, 2, 255, 0, 0] 3 = 0 ∧ ZoneEntry.branch 255 = ZoneEntry.absent ∨ param [2, 47, 15, 2,
      255, 0, 0] 3 = 1 ∧ ZoneEntry.branch 255 = ZoneEntry.leaf (rightsOf (([2, 47, 15, 2, 255, 0, 0] : List
      Byte).getD 4 0)) (min (param [2, 47, 15, 2, 255, 0, 0] 5) 250) (BitVec.getLsbD (([2, 47, 15, 2, 255, 0, 0]
      : List Byte).getD 6 0) 0) ∨ param [2, 47, 15, 2, 255, 0, 0] 3 = 2 ∧ ZoneEntry.branch 255 =
      ZoneEntry.branch (param [2, 47, 15, 2, 255, 0, 0] 4))) ∧
    (7 ≤ ([1, 24, 0, 2, 0, 0, 0] : List Byte).length ∧ (2 < param [1, 24, 0, 2, 0, 0, 0] 0 ∨ 2 < param [1, 24,
      0, 2, 0, 0, 0] 3 ∨ param [1, 24, 0, 2, 0, 0, 0] 0 = 0 ∧ (0 < param [1, 24, 0, 2, 0, 0, 0] 1 ∨ 15 < param
      [1, 24, 0, 2, 0, 0, 0] 2) ∨ param [1, 24, 0, 2, 0, 0, 0] 0 = 1 ∧ (23 < param [1, 24, 0, 2, 0, 0, 0] 1 ∨ 31
      < param [1, 24, 0, 2, 0, 0, 0] 2) ∨ param [1, 24, 0, 2, 0, 0, 0] 0 = 2 ∧ (47 < param [1, 24, 0, 2, 0, 0,
      0] 1 ∨ 15 < param [1, 24, 0, 2, 0, 0, 0] 2))) :=
  ⟨⟨by decide, rfl, by decide, by decide⟩, ⟨by decide, rfl, by decide, by decide⟩, ⟨by decide, rfl, by decide,
    by decide⟩, ⟨by decide, by decide⟩⟩

theorem witness_ZoneReadReturnsTheEntry :
    (3 ≤ ([0, 0, 3] : List Byte).length ∧ (param [0, 0, 3] 0 = 0 ∧ param [0, 0, 3] 1 = 0 ∧ param [0, 0, 3] 2 <
      16 ∧ 3 = param [0, 0, 3] 2 ∨ param [0, 0, 3] 0 = 1 ∧ param [0, 0, 3] 1 < 24 ∧ param [0, 0, 3] 2 < 32 ∧ 3 =
      16 + param [0, 0, 3] 1 * 32 + param [0, 0, 3] 2 ∨ param [0, 0, 3] 0 = 2 ∧ param [0, 0, 3] 1 < 48 ∧ param
      [0, 0, 3] 2 < 16 ∧ 3 = 784 + param [0, 0, 3] 1 * 16 + param [0, 0, 3] 2)) ∧
    (3 ≤ ([2, 47, 15] : List Byte).length ∧ (param [2, 47, 15] 0 = 0 ∧ param [2, 47, 15] 1 = 0 ∧ param [2, 47,
      15] 2 < 16 ∧ 1551 = param [2, 47, 15] 2 ∨ param [2, 47, 15] 0 = 1 ∧ param [2, 47, 15] 1 < 24 ∧ param [2,
      47, 15] 2 < 32 ∧ 1551 = 16 + param [2, 47, 15] 1 * 32 + param [2, 47, 15] 2 ∨ param [2, 47, 15] 0 = 2 ∧
      param [2, 47, 15] 1 < 48 ∧ param [2, 47, 15] 2 < 16 ∧ 1551 = 784 + param [2, 47, 15] 1 * 16 + param [2,
      47, 15] 2)) ∧
    (3 ≤ ([1, 23, 31] : List Byte).length ∧ (param [1, 23, 31] 0 = 0 ∧ param [1, 23, 31] 1 = 0 ∧ param [1, 23,
      31] 2 < 16 ∧ 783 = param [1, 23, 31] 2 ∨ param [1, 23, 31] 0 = 1 ∧ param [1, 23, 31] 1 < 24 ∧ param [1,
      23, 31] 2 < 32 ∧ 783 = 16 + param [1, 23, 31] 1 * 32 + param [1, 23, 31] 2 ∨ param [1, 23, 31] 0 = 2 ∧
      param [1, 23, 31] 1 < 48 ∧ param [1, 23, 31] 2 < 16 ∧ 783 = 784 + param [1, 23, 31] 1 * 16 + param [1, 23,
      31] 2)) ∧
    (3 ≤ ([2, 48, 1] : List Byte).length ∧ (2 < param [2, 48, 1] 0 ∨ param [2, 48, 1] 0 = 0 ∧ (0 < param [2, 48,
      1] 1 ∨ 15 < param [2, 48, 1] 2) ∨ param [2, 48, 1] 0 = 1 ∧ (23 < param [2, 48, 1] 1 ∨ 31 < param [2, 48,
      1] 2) ∨ param [2, 48, 1] 0 = 2 ∧ (47 < param [2, 48, 1] 1 ∨ 15 < param [2, 48, 1] 2))) ∧
    (3 ≤ ([3, 0, 0] : List Byte).length ∧ (2 < param [3, 0, 0] 0 ∨ param [3, 0, 0] 0 = 0 ∧ (0 < param [3, 0, 0]
      1 ∨ 15 < param [3, 0, 0] 2) ∨ param [3, 0, 0] 0 = 1 ∧ (23 < param [3, 0, 0] 1 ∨ 31 < param [3, 0, 0] 2) ∨
      param [3, 0, 0] 0 = 2 ∧ (47 < param [3, 0, 0] 1 ∨ 15 < param [3, 0, 0] 2))) :=
  ⟨⟨by decide, by decide⟩, ⟨by decide, by decide⟩, ⟨by decide, by decide⟩, ⟨by decide, by decide⟩, ⟨by decide,
    by decide⟩⟩

theorem witness_ZoneGenerationFenceAndFollowOn :
    ((unzonedStation.station = StationState.setup ∨ unzonedStation.blocks = Blocks.unset ∨ ∃ m,
      unzonedStation.blocks = Blocks.machine m ∧ m.binding.machineZone = none) ∧ 1 ≤ ([9] : List Byte).length) ∧
    (((inStation .setup (chairHeard (chairWith engineIdle) 9 7 .halt)).station = StationState.setup ∨ (inStation
      .setup (chairHeard (chairWith engineIdle) 9 7 .halt)).blocks = Blocks.unset ∨ ∃ m, (inStation .setup
      (chairHeard (chairWith engineIdle) 9 7 .halt)).blocks = Blocks.machine m ∧ m.binding.machineZone = none) ∧
      1 ≤ ([9] : List Byte).length) ∧
    (((inStation .setup (chairHeard (chairWith engineIdle) 9 7 .halt)).station = StationState.setup ∨ (inStation
      .setup (chairHeard (chairWith engineIdle) 9 7 .halt)).blocks = Blocks.unset ∨ ∃ m, (inStation .setup
      (chairHeard (chairWith engineIdle) 9 7 .halt)).blocks = Blocks.machine m ∧ m.binding.machineZone = none) ∧
      5 ≤ ([2, 6, 89, 0, 6] : List Byte).length ∧ fenceZone (param [2, 6, 89, 0, 6] 0) (param2 [2, 6, 89, 0, 6]
      1) = some (some (ZonePrefix.level2 3 5)) ∧ fenceGeneration (param [2, 6, 89, 0, 6] 3) (param [2, 6, 89, 0,
      6] 4) = some (some 6)) ∧
    ((machineHeard .bound 31 .halt).station ≠ StationState.setup ∧ (machineHeard .bound 31 .halt).blocks =
      Blocks.machine (machineIn .bound) ∧ (machineIn .bound).binding.machineZone = some zoneA ∧ 1 ≤ ([9] : List
      Byte).length ∧ (machineHeard .bound 31 .halt).zones.generation ≠ param [9] 0) ∧
    ((machineHeard .bound 31 .halt).station ≠ StationState.setup ∧ (machineHeard .bound 31 .halt).blocks =
      Blocks.machine (machineIn .bound) ∧ (machineIn .bound).binding.machineZone = some zoneA ∧ 5 ≤ ([0, 0, 0,
      1, 0] : List Byte).length ∧ fenceZone (param [0, 0, 0, 1, 0] 0) (param2 [0, 0, 0, 1, 0] 1) = some none ∧
      fenceGeneration (param [0, 0, 0, 1, 0] 3) (param [0, 0, 0, 1, 0] 4) = some none ∧ fenceCovers none zoneA =
      true) ∧
    ((chairHeard (chairWith engineIdle) 9 7 .halt).station ≠ StationState.setup ∧ (chairHeard (chairWith
      engineIdle) 9 7 .halt).blocks = Blocks.chair (chairWith engineIdle) ∧ 1 ≤ ([9] : List Byte).length ∧
      (chairHeard (chairWith engineIdle) 9 7 .halt).zones.generation ≠ param [9] 0) ∧
    ((chairHeard (chairWith engineIdle) 9 7 .halt).station ≠ StationState.setup ∧ (chairHeard (chairWith
      engineIdle) 9 7 .halt).blocks = Blocks.chair (chairWith engineIdle) ∧ 5 ≤ ([0, 0, 0, 1, 0] : List
      Byte).length ∧ fenceZone (param [0, 0, 0, 1, 0] 0) (param2 [0, 0, 0, 1, 0] 1) = some none ∧
      fenceGeneration (param [0, 0, 0, 1, 0] 3) (param [0, 0, 0, 1, 0] 4) = some none) ∧
    ((chairHeard (chairWith engineIdle) 9 7 .halt).station ≠ StationState.setup ∧ (chairHeard (chairWith
      engineIdle) 9 7 .halt).blocks = Blocks.chair (chairWith engineIdle) ∧ 5 ≤ ([1, 6, 89, 0, 6] : List
      Byte).length ∧ fenceZone (param [1, 6, 89, 0, 6] 0) (param2 [1, 6, 89, 0, 6] 1) = some (some
      (ZonePrefix.level1 3)) ∧ fenceGeneration (param [1, 6, 89, 0, 6] 3) (param [1, 6, 89, 0, 6] 4) = some
      (some 6)) :=
  ⟨⟨.inr (.inr ⟨machineUnzoned, rfl, rfl⟩), by decide⟩, ⟨.inl rfl, by decide⟩, ⟨.inl rfl, by decide, rfl, rfl⟩,
    ⟨by decide, rfl, rfl, by decide, by decide⟩, ⟨by decide, rfl, rfl, by decide, rfl, rfl, rfl⟩, ⟨by decide,
    rfl, by decide, by decide⟩, ⟨by decide, rfl, by decide, rfl, rfl⟩, ⟨by decide, rfl, by decide, rfl, rfl⟩⟩

theorem witness_ZoneLookupAnswers :
    (2 ≤ ([32, 0] : List Byte).length ∧ 8191 < param2 [32, 0] 0) ∧
    (2 ≤ ([8, 33] : List Byte).length ∧ zoneOf (param2 [8, 33] 0) = some zoneB ∧ cacheHit (chairHeard (chairWith
      engineIdle) 9 7 .halt).zones zoneB = some entryB) ∧
    (2 ≤ ([18, 153] : List Byte).length ∧ zoneOf (param2 [18, 153] 0) = some zoneN ∧ cacheHit (chairHeard
      (chairWith engineIdle) 9 7 .halt).zones zoneN = none ∧ walk (chairHeard (chairWith engineIdle) 9 7
      .halt).zones zoneN = Except.error ZoneFault.noEntry) ∧
    (2 ≤ ([6, 89] : List Byte).length ∧ zoneOf (param2 [6, 89] 0) = some zoneA ∧ cacheHit (chairHeard (chairWith
      engineIdle) 9 7 .halt).zones zoneA = none ∧ walk (chairHeard (chairWith engineIdle) 9 7 .halt).zones zoneA
      = Except.ok (ZonePrefix.level1 3,
      { rights := ⟨true, true, true, false⟩, limit := 180, isGlobal := false })) :=
  ⟨⟨by decide, by decide⟩, ⟨by decide, rfl, rfl⟩, ⟨by decide, rfl, rfl, rfl⟩, ⟨by decide, rfl, rfl, rfl⟩⟩

theorem witness_LookupCacheKeepsItsPromises :
    (Zones.lookup zoneA testZones).1.fault = none ∧
    CacheSound testZones ∧
    (CacheSound testZones ∧ testZones.cache[0]? = some entryB ∧ testZones.cache[0]? = some entryB ∧
      CacheEntry.inUse testZones.generation entryB = true ∧ CacheEntry.inUse testZones.generation entryB = true
      ∧ covers entryB.covered zoneB = true ∧ covers entryB.covered zoneB = true) ∧
    (CacheSound zoneLookupNext.zones ∧ step zoneLookupNext = .next (afterStep zoneLookupNext)) :=
  ⟨rfl, ⟨by decide, by decide⟩, ⟨⟨by decide, by decide⟩, rfl, rfl, rfl, rfl, rfl, rfl⟩, ⟨⟨by decide, by decide⟩,
    rfl⟩⟩

theorem witness_PositionMovesTheZone :
    ((machineHeard .bound 31 .halt).station ≠ StationState.setup ∧ (machineHeard .bound 31 .halt).blocks =
      Blocks.machine (machineIn .bound) ∧ 2 ≤ ([32, 0] : List Byte).length ∧ 8191 < param2 [32, 0] 0) ∧
    ((machineHeard .bound 31 .halt).station ≠ StationState.setup ∧ (machineHeard .bound 31 .halt).blocks =
      Blocks.machine (machineIn .bound) ∧ 2 ≤ ([6, 89] : List Byte).length ∧ zoneOf (param2 [6, 89] 0) = some
      zoneA ∧ (machineIn .bound).binding.machineZone = some zoneA) ∧
    ((machineHeard .bound 31 .halt).station ≠ StationState.setup ∧ (machineHeard .bound 31 .halt).blocks =
      Blocks.machine (machineIn .bound) ∧ 2 ≤ ([8, 33] : List Byte).length ∧ zoneOf (param2 [8, 33] 0) = some
      zoneB ∧ (machineIn .bound).binding.machineZone ≠ some zoneB) ∧
    ((machineHeard .orphaned 31 .halt).station ≠ StationState.setup ∧ (machineHeard .orphaned 31 .halt).blocks =
      Blocks.machine (machineIn .orphaned) ∧ 2 ≤ ([8, 33] : List Byte).length ∧ zoneOf (param2 [8, 33] 0) = some
      zoneB ∧ (machineIn .orphaned).binding.machineZone ≠ some zoneB) ∧
    ((machineHeard .bound 31 .halt).station ≠ StationState.setup ∧ (machineHeard .bound 31 .halt).blocks =
      Blocks.machine (machineIn .bound) ∧ 2 ≤ ([18, 153] : List Byte).length ∧ zoneOf (param2 [18, 153] 0) =
      some zoneN ∧ (machineIn .bound).binding.machineZone ≠ some zoneN) :=
  ⟨⟨by decide, rfl, by decide, by decide⟩, ⟨by decide, rfl, by decide, rfl, rfl⟩, ⟨by decide, rfl, by decide,
    rfl, by decide⟩, ⟨by decide, rfl, by decide, rfl, by decide⟩, ⟨by decide, rfl, by decide, rfl, by decide⟩⟩

theorem witness_HaltLatchAndStopInput :
    ((machineHeard .bound 31 .halt).station = StationState.online ∧ (machineHeard .bound 31 .halt).blocks =
      Blocks.machine (machineIn .bound) ∧ (machineIn .bound).gate.halted = false) ∧
    ((haltedHeard .halt).station = StationState.online ∧ (haltedHeard .halt).blocks = Blocks.machine
      machineHalted ∧ machineHalted.gate.halted = true) ∧
    (State.machineHears (machineIn .bound) ⟨31, 7, .halt⟩ laterFrames (machineHeard .bound 31 .halt) ∧ (⟨31, 7,
      .halt⟩ : Frame).body = Body.halt ∧ (machineIn .bound).gate.halted = false) ∧
    (State.machineHears machineHalted ⟨31, 7, .halt⟩ laterFrames (haltedHeard .halt) ∧ (⟨31, 7, .halt⟩ :
      Frame).body = Body.halt ∧ machineHalted.gate.halted = true) ∧
    (State.machineHears machineHalted ⟨31, 7, .resume 65535⟩ laterFrames (haltedHeard (.resume 65535)) ∧ (⟨31,
      7, .resume 65535⟩ : Frame).body = Body.resume 65535 ∧ fromController machineHalted.binding (⟨31, 7,
      .resume 65535⟩ : Frame).source 65535 = true ∧ machineHalted.gate.halted = true) ∧
    (State.machineHears (machineIn .bound) ⟨31, 7, .resume 65535⟩ laterFrames (machineHeard .bound 31 (.resume
      65535)) ∧ (⟨31, 7, .resume 65535⟩ : Frame).body = Body.resume 65535 ∧ fromController (machineIn
      .bound).binding (⟨31, 7, .resume 65535⟩ : Frame).source 65535 = true ∧ (machineIn .bound).gate.halted =
      false) ∧
    ((machineHeard .bound 31 .halt).blocks = Blocks.machine (machineIn .bound) ∧ (machineIn
      .bound).gate.stopActive ≠ true ∧ (machineHeard .bound 31 .halt).station = StationState.online) ∧
    ((haltedHeard .halt).blocks = Blocks.machine machineHalted ∧ machineHalted.gate.strobeTimer = some 5200) ∧
    ((inStation .listen (machineHeard .unbound 31 .halt)).blocks = Blocks.machine (machineIn .unbound) ∧
      (machineIn .unbound).gate.stopActive ≠ true ∧ (inStation .listen (machineHeard .unbound 31 .halt)).station
      ≠ StationState.online) :=
  ⟨⟨rfl, rfl, rfl⟩, ⟨rfl, rfl, rfl⟩, ⟨⟨rfl, rfl, rfl⟩, rfl, rfl⟩, ⟨⟨rfl, rfl, rfl⟩, rfl, rfl⟩, ⟨⟨rfl, rfl, rfl⟩,
    rfl, rfl, rfl⟩, ⟨⟨rfl, rfl, rfl⟩, rfl, rfl, rfl⟩, ⟨rfl, by decide, rfl⟩, ⟨rfl, rfl⟩, ⟨rfl, by decide,
    by decide⟩⟩

theorem witness_CeilingAndOutputs :
    ((bindingIn .unbound).state = BindingState.unbound ∨ (bindingIn .unbound).state = BindingState.orphaned ∨
      (DriveGate.recompute testConfig (bindingIn .unbound) testGate).halted = true ∨ (DriveGate.recompute
      testConfig (bindingIn .unbound) testGate).stopActive = true ∨ (DriveGate.recompute testConfig (bindingIn
      .unbound) testGate).combined.drive = false) ∧
    ((¬((DriveGate.recompute testConfig (bindingIn .bound) testGate).halted = true ∨ (DriveGate.recompute
      testConfig (bindingIn .bound) testGate).stopActive = true ∨ (DriveGate.recompute testConfig (bindingIn
      .bound) testGate).combined.drive = false)) ∧ ((bindingIn .bound).state = BindingState.bound ∨ ∃ p,
      (bindingIn .bound).state = BindingState.proposed p)) ∧
    ((¬((DriveGate.recompute testConfig (bindingIn (.proposed proposal44)) testGate).halted = true ∨
      (DriveGate.recompute testConfig (bindingIn (.proposed proposal44)) testGate).stopActive = true ∨
      (DriveGate.recompute testConfig (bindingIn (.proposed proposal44)) testGate).combined.drive = false)) ∧
      ((bindingIn (.proposed proposal44)).state = BindingState.bound ∨ ∃ p, (bindingIn (.proposed
      proposal44)).state = BindingState.proposed p)) ∧
    ((¬((DriveGate.recompute testConfig (bindingIn (.transfer transfer77)) testGate).halted = true ∨
      (DriveGate.recompute testConfig (bindingIn (.transfer transfer77)) testGate).stopActive = true ∨
      (DriveGate.recompute testConfig (bindingIn (.transfer transfer77)) testGate).combined.drive = false)) ∧
      (bindingIn (.transfer transfer77)).state = BindingState.transfer transfer77 ∧ (DriveGate.recompute
      testConfig (bindingIn (.transfer transfer77)) testGate).ramp = some testRamp) ∧
    (DriveGate.recompute testConfig (bindingIn .bound) gateStopped).held.demand.stop = true ∧
    ((DriveGate.recompute testConfig (bindingIn .bound) testGate).held.demand.stop = false ∧ 0 ≤
      (DriveGate.recompute testConfig (bindingIn .bound) testGate).held.demand.speed) ∧
    ((DriveGate.recompute testConfig (bindingIn .bound) gateReverse).held.demand.stop = false ∧
      (DriveGate.recompute testConfig (bindingIn .bound) gateReverse).held.demand.speed < 0) ∧
    (((DriveGate.recompute testConfig (bindingIn .bound) gateStopInput).halted = true ∨ (DriveGate.recompute
      testConfig (bindingIn .bound) gateStopInput).stopActive = true ∨ (DriveGate.recompute testConfig
      (bindingIn .bound) gateStopInput).combined.drive = false) ∨ (DriveGate.recompute testConfig (bindingIn
      .bound) gateStopInput).combined.load = false ∧ (DriveGate.recompute testConfig (bindingIn .bound)
      gateStopInput).combined.tip = false) ∧
    ((¬((DriveGate.recompute testConfig (bindingIn .bound) testGate).halted = true ∨ (DriveGate.recompute
      testConfig (bindingIn .bound) testGate).stopActive = true ∨ (DriveGate.recompute testConfig (bindingIn
      .bound) testGate).combined.drive = false)) ∧ ((DriveGate.recompute testConfig (bindingIn .bound)
      testGate).combined.load = true ∨ (DriveGate.recompute testConfig (bindingIn .bound) testGate).combined.tip
      = true)) ∧
    (((DriveGate.recompute testConfig (bindingIn .bound) gateReverse).halted = true ∨ (DriveGate.recompute
      testConfig (bindingIn .bound) gateReverse).stopActive = true ∨ (DriveGate.recompute testConfig (bindingIn
      .bound) gateReverse).combined.drive = false) ∨ (DriveGate.recompute testConfig (bindingIn .bound)
      gateReverse).held.demand.bucket = 0 ∨ 0 < (DriveGate.recompute testConfig (bindingIn .bound)
      gateReverse).held.demand.bucket ∧ (DriveGate.recompute testConfig (bindingIn .bound)
      gateReverse).combined.load = false ∨ (DriveGate.recompute testConfig (bindingIn .bound)
      gateReverse).held.demand.bucket < 0 ∧ (DriveGate.recompute testConfig (bindingIn .bound)
      gateReverse).combined.tip = false) ∧
    ((¬((DriveGate.recompute testConfig (bindingIn .bound) testGate).halted = true ∨ (DriveGate.recompute
      testConfig (bindingIn .bound) testGate).stopActive = true ∨ (DriveGate.recompute testConfig (bindingIn
      .bound) testGate).combined.drive = false)) ∧ (0 < (DriveGate.recompute testConfig (bindingIn .bound)
      testGate).held.demand.bucket ∧ (DriveGate.recompute testConfig (bindingIn .bound) testGate).combined.load
      = true ∨ (DriveGate.recompute testConfig (bindingIn .bound) testGate).held.demand.bucket < 0 ∧
      (DriveGate.recompute testConfig (bindingIn .bound) testGate).combined.tip = true)) :=
  ⟨by decide, ⟨by decide, .inl rfl⟩, ⟨by decide, .inr ⟨proposal44, rfl⟩⟩, ⟨by decide, rfl, rfl⟩, rfl, ⟨rfl,
    by decide⟩, ⟨rfl, by decide⟩, by decide, ⟨by decide, by decide⟩, by decide, ⟨by decide, by decide⟩⟩

theorem witness_RampTimerExpiry :
    (machineHeard (.transfer transfer77) 31 .halt).blocks = Blocks.machine (machineIn (.transfer transfer77)) ∧
      (machineIn (.transfer transfer77)).gate.ramp = some testRamp :=
  ⟨rfl, rfl⟩

theorem witness_AskAndSeizeBind :
    (State.machineHears (machineIn .unbound) ⟨50, 7, .ask termsA⟩ laterFrames (machineHeard .unbound 50 (.ask
      termsA)) ∧ (Instr.ask = Instr.ask ∧ (⟨50, 7, .ask termsA⟩ : Frame).body = Body.ask termsA ∧ (machineIn
      .unbound).binding.state = BindingState.unbound ∨ Instr.ask = Instr.ask ∧ (⟨50, 7, .ask termsA⟩ :
      Frame).body = Body.ask termsA ∧ (machineIn .unbound).binding.state = BindingState.orphaned ∧ (⟨50, 7, .ask
      termsA⟩ : Frame).source = (machineIn .unbound).binding.controller ∨ Instr.ask = Instr.seizeFrame ∧ (⟨50,
      7, .ask termsA⟩ : Frame).body = Body.seize termsA ∧ (machineIn .unbound).binding.state =
      BindingState.orphaned) ∧ (machineIn .unbound).binding.machineZone = some termsA.zone ∧
      (termsA.rights.drive && (Zones.lookup termsA.zone (machineHeard .unbound 50 (.ask
      termsA)).zones).1.rights.drive) = true) ∧
    (State.machineHears (machineIn .orphaned) ⟨31, 7, .ask termsA⟩ laterFrames (machineHeard .orphaned 31 (.ask
      termsA)) ∧ (Instr.ask = Instr.ask ∧ (⟨31, 7, .ask termsA⟩ : Frame).body = Body.ask termsA ∧ (machineIn
      .orphaned).binding.state = BindingState.unbound ∨ Instr.ask = Instr.ask ∧ (⟨31, 7, .ask termsA⟩ :
      Frame).body = Body.ask termsA ∧ (machineIn .orphaned).binding.state = BindingState.orphaned ∧ (⟨31, 7,
      .ask termsA⟩ : Frame).source = (machineIn .orphaned).binding.controller ∨ Instr.ask = Instr.seizeFrame ∧
      (⟨31, 7, .ask termsA⟩ : Frame).body = Body.seize termsA ∧ (machineIn .orphaned).binding.state =
      BindingState.orphaned) ∧ (machineIn .orphaned).binding.machineZone = some termsA.zone ∧
      (termsA.rights.drive && (Zones.lookup termsA.zone (machineHeard .orphaned 31 (.ask
      termsA)).zones).1.rights.drive) = true) ∧
    (State.machineHears (machineIn .orphaned) ⟨50, 7, .seize termsA⟩ laterFrames (machineHeard .orphaned 50
      (.seize termsA)) ∧ (Instr.seizeFrame = Instr.ask ∧ (⟨50, 7, .seize termsA⟩ : Frame).body = Body.ask termsA
      ∧ (machineIn .orphaned).binding.state = BindingState.unbound ∨ Instr.seizeFrame = Instr.ask ∧ (⟨50, 7,
      .seize termsA⟩ : Frame).body = Body.ask termsA ∧ (machineIn .orphaned).binding.state =
      BindingState.orphaned ∧ (⟨50, 7, .seize termsA⟩ : Frame).source = (machineIn .orphaned).binding.controller
      ∨ Instr.seizeFrame = Instr.seizeFrame ∧ (⟨50, 7, .seize termsA⟩ : Frame).body = Body.seize termsA ∧
      (machineIn .orphaned).binding.state = BindingState.orphaned) ∧ (machineIn .orphaned).binding.machineZone =
      some termsA.zone ∧ (termsA.rights.drive && (Zones.lookup termsA.zone (machineHeard .orphaned 50 (.seize
      termsA)).zones).1.rights.drive) = true) :=
  ⟨⟨⟨rfl, rfl, rfl⟩, by decide, rfl, rfl⟩, ⟨⟨rfl, rfl, rfl⟩, by decide, rfl, rfl⟩, ⟨⟨rfl, rfl, rfl⟩, by decide,
    rfl, rfl⟩⟩

theorem witness_AsksRefusedAndRepeated :
    (State.machineHears (machineIn .orphaned) ⟨50, 7, .ask termsA⟩ laterFrames (machineHeard .orphaned 50 (.ask
      termsA)) ∧ (Instr.ask = Instr.ask ∧ (⟨50, 7, .ask termsA⟩ : Frame).body = Body.ask termsA ∧ (machineIn
      .orphaned).binding.state = BindingState.orphaned ∧ (⟨50, 7, .ask termsA⟩ : Frame).source ≠ (machineIn
      .orphaned).binding.controller ∧ Reason.seizeRequired = Reason.seizeRequired ∨ Instr.ask = Instr.seizeFrame
      ∧ (⟨50, 7, .ask termsA⟩ : Frame).body = Body.seize termsA ∧ (machineIn .orphaned).binding.state ≠
      BindingState.orphaned ∧ Reason.seizeRequired = Reason.notOrphaned ∨ Instr.ask = Instr.ask ∧ (⟨50, 7, .ask
      termsA⟩ : Frame).body = Body.ask termsA ∧ (∃ r, (machineIn .orphaned).binding.state =
      BindingState.transfer r) ∧ Reason.seizeRequired = Reason.busy ∨ Instr.ask = Instr.ask ∧ (⟨50, 7, .ask
      termsA⟩ : Frame).body = Body.ask termsA ∧ (machineIn .orphaned).binding.state = BindingState.unbound ∧
      (machineIn .orphaned).binding.machineZone = none ∧ Reason.seizeRequired = Reason.zoneChanged)) ∧
    (State.machineHears (machineIn .bound) ⟨50, 7, .seize termsA⟩ laterFrames (machineHeard .bound 50 (.seize
      termsA)) ∧ (Instr.seizeFrame = Instr.ask ∧ (⟨50, 7, .seize termsA⟩ : Frame).body = Body.ask termsA ∧
      (machineIn .bound).binding.state = BindingState.orphaned ∧ (⟨50, 7, .seize termsA⟩ : Frame).source ≠
      (machineIn .bound).binding.controller ∧ Reason.notOrphaned = Reason.seizeRequired ∨ Instr.seizeFrame =
      Instr.seizeFrame ∧ (⟨50, 7, .seize termsA⟩ : Frame).body = Body.seize termsA ∧ (machineIn
      .bound).binding.state ≠ BindingState.orphaned ∧ Reason.notOrphaned = Reason.notOrphaned ∨ Instr.seizeFrame
      = Instr.ask ∧ (⟨50, 7, .seize termsA⟩ : Frame).body = Body.ask termsA ∧ (∃ r, (machineIn
      .bound).binding.state = BindingState.transfer r) ∧ Reason.notOrphaned = Reason.busy ∨ Instr.seizeFrame =
      Instr.ask ∧ (⟨50, 7, .seize termsA⟩ : Frame).body = Body.ask termsA ∧ (machineIn .bound).binding.state =
      BindingState.unbound ∧ (machineIn .bound).binding.machineZone = none ∧ Reason.notOrphaned =
      Reason.zoneChanged)) ∧
    (State.machineHears (machineIn (.transfer transfer77)) ⟨50, 7, .ask termsA⟩ laterFrames (machineHeard
      (.transfer transfer77) 50 (.ask termsA)) ∧ (Instr.ask = Instr.ask ∧ (⟨50, 7, .ask termsA⟩ : Frame).body =
      Body.ask termsA ∧ (machineIn (.transfer transfer77)).binding.state = BindingState.orphaned ∧ (⟨50, 7, .ask
      termsA⟩ : Frame).source ≠ (machineIn (.transfer transfer77)).binding.controller ∧ Reason.busy =
      Reason.seizeRequired ∨ Instr.ask = Instr.seizeFrame ∧ (⟨50, 7, .ask termsA⟩ : Frame).body = Body.seize
      termsA ∧ (machineIn (.transfer transfer77)).binding.state ≠ BindingState.orphaned ∧ Reason.busy =
      Reason.notOrphaned ∨ Instr.ask = Instr.ask ∧ (⟨50, 7, .ask termsA⟩ : Frame).body = Body.ask termsA ∧ (∃ r,
      (machineIn (.transfer transfer77)).binding.state = BindingState.transfer r) ∧ Reason.busy = Reason.busy ∨
      Instr.ask = Instr.ask ∧ (⟨50, 7, .ask termsA⟩ : Frame).body = Body.ask termsA ∧ (machineIn (.transfer
      transfer77)).binding.state = BindingState.unbound ∧ (machineIn (.transfer transfer77)).binding.machineZone
      = none ∧ Reason.busy = Reason.zoneChanged)) ∧
    (State.machineHears (machineIn (.proposed proposal44)) ⟨44, 7, .ask termsA⟩ laterFrames (machineHeard
      (.proposed proposal44) 44 (.ask termsA)) ∧ (⟨44, 7, .ask termsA⟩ : Frame).body = Body.ask termsA ∧
      (machineIn (.proposed proposal44)).binding.state = BindingState.proposed proposal44 ∧ (⟨44, 7, .ask
      termsA⟩ : Frame).source = proposal44.asker) ∧
    (State.machineHears (machineIn (.proposed proposal44)) ⟨31, 7, .ask termsA⟩ laterFrames (machineHeard
      (.proposed proposal44) 31 (.ask termsA)) ∧ (⟨31, 7, .ask termsA⟩ : Frame).body = Body.ask termsA ∧
      (machineIn (.proposed proposal44)).binding.state = BindingState.proposed proposal44 ∧ (⟨31, 7, .ask
      termsA⟩ : Frame).source ≠ proposal44.asker) ∧
    (State.machineHears machineUnplaced ⟨50, 7, .ask termsA⟩ [] (stationWith (Blocks.machine machineUnplaced)
      [⟨50, 7, .ask termsA⟩]) ∧ (Instr.ask = Instr.ask ∧ (⟨50, 7, .ask termsA⟩ : Frame).body = Body.ask termsA ∧
      machineUnplaced.binding.state = BindingState.orphaned ∧ (⟨50, 7, .ask termsA⟩ : Frame).source ≠
      machineUnplaced.binding.controller ∧ Reason.zoneChanged = Reason.seizeRequired ∨ Instr.ask =
      Instr.seizeFrame ∧ (⟨50, 7, .ask termsA⟩ : Frame).body = Body.seize termsA ∧ machineUnplaced.binding.state
      ≠ BindingState.orphaned ∧ Reason.zoneChanged = Reason.notOrphaned ∨ Instr.ask = Instr.ask ∧ (⟨50, 7, .ask
      termsA⟩ : Frame).body = Body.ask termsA ∧ (∃ r, machineUnplaced.binding.state = BindingState.transfer r) ∧
      Reason.zoneChanged = Reason.busy ∨ Instr.ask = Instr.ask ∧ (⟨50, 7, .ask termsA⟩ : Frame).body = Body.ask
      termsA ∧ machineUnplaced.binding.state = BindingState.unbound ∧ machineUnplaced.binding.machineZone = none
      ∧ Reason.zoneChanged = Reason.zoneChanged)) ∧
    (State.machineHears (machineIn (.transfer transfer77)) ⟨44, 7, .ask termsA⟩ laterFrames (machineHeard
      (.transfer transfer77) 44 (.ask termsA)) ∧ (⟨44, 7, .ask termsA⟩ : Frame).body = Body.ask termsA ∧
      (machineIn (.transfer transfer77)).binding.state = BindingState.transfer transfer77) ∧
    (State.machineHears (machineIn .unbound) ⟨50, 7, .ask proposal44.terms⟩ laterFrames (machineHeard .unbound
      50 (.ask proposal44.terms)) ∧ (machineIn .unbound).binding.machineZone = some zoneA ∧ (Instr.ask =
      Instr.ask ∧ (⟨50, 7, .ask proposal44.terms⟩ : Frame).body = Body.ask proposal44.terms ∧ (machineIn
      .unbound).binding.state = BindingState.unbound ∨ Instr.ask = Instr.ask ∧ (⟨50, 7, .ask proposal44.terms⟩ :
      Frame).body = Body.ask proposal44.terms ∧ (machineIn .unbound).binding.state = BindingState.bound ∧ (⟨50,
      7, .ask proposal44.terms⟩ : Frame).source ≠ (machineIn .unbound).binding.controller ∨ Instr.ask =
      Instr.ask ∧ (⟨50, 7, .ask proposal44.terms⟩ : Frame).body = Body.ask proposal44.terms ∧ (machineIn
      .unbound).binding.state = BindingState.orphaned ∧ (⟨50, 7, .ask proposal44.terms⟩ : Frame).source =
      (machineIn .unbound).binding.controller ∨ Instr.ask = Instr.seizeFrame ∧ (⟨50, 7, .ask proposal44.terms⟩ :
      Frame).body = Body.seize proposal44.terms ∧ (machineIn .unbound).binding.state = BindingState.orphaned) ∧
      (proposal44.terms.zone ≠ zoneA ∨ (proposal44.terms.rights.drive && (Zones.lookup zoneA (machineHeard
      .unbound 50 (.ask proposal44.terms)).zones).1.rights.drive) = false)) ∧
    (State.machineHears (machineIn .bound) ⟨50, 7, .ask termsIdle⟩ laterFrames (machineHeard .bound 50 (.ask
      termsIdle)) ∧ (machineIn .bound).binding.machineZone = some zoneA ∧ (Instr.ask = Instr.ask ∧ (⟨50, 7, .ask
      termsIdle⟩ : Frame).body = Body.ask termsIdle ∧ (machineIn .bound).binding.state = BindingState.unbound ∨
      Instr.ask = Instr.ask ∧ (⟨50, 7, .ask termsIdle⟩ : Frame).body = Body.ask termsIdle ∧ (machineIn
      .bound).binding.state = BindingState.bound ∧ (⟨50, 7, .ask termsIdle⟩ : Frame).source ≠ (machineIn
      .bound).binding.controller ∨ Instr.ask = Instr.ask ∧ (⟨50, 7, .ask termsIdle⟩ : Frame).body = Body.ask
      termsIdle ∧ (machineIn .bound).binding.state = BindingState.orphaned ∧ (⟨50, 7, .ask termsIdle⟩ :
      Frame).source = (machineIn .bound).binding.controller ∨ Instr.ask = Instr.seizeFrame ∧ (⟨50, 7, .ask
      termsIdle⟩ : Frame).body = Body.seize termsIdle ∧ (machineIn .bound).binding.state =
      BindingState.orphaned) ∧ (termsIdle.zone ≠ zoneA ∨ (termsIdle.rights.drive && (Zones.lookup zoneA
      (machineHeard .bound 50 (.ask termsIdle)).zones).1.rights.drive) = false)) ∧
    (State.machineHears (machineIn .orphaned) ⟨31, 7, .ask termsIdle⟩ laterFrames (machineHeard .orphaned 31
      (.ask termsIdle)) ∧ (machineIn .orphaned).binding.machineZone = some zoneA ∧ (Instr.ask = Instr.ask ∧
      (⟨31, 7, .ask termsIdle⟩ : Frame).body = Body.ask termsIdle ∧ (machineIn .orphaned).binding.state =
      BindingState.unbound ∨ Instr.ask = Instr.ask ∧ (⟨31, 7, .ask termsIdle⟩ : Frame).body = Body.ask termsIdle
      ∧ (machineIn .orphaned).binding.state = BindingState.bound ∧ (⟨31, 7, .ask termsIdle⟩ : Frame).source ≠
      (machineIn .orphaned).binding.controller ∨ Instr.ask = Instr.ask ∧ (⟨31, 7, .ask termsIdle⟩ : Frame).body
      = Body.ask termsIdle ∧ (machineIn .orphaned).binding.state = BindingState.orphaned ∧ (⟨31, 7, .ask
      termsIdle⟩ : Frame).source = (machineIn .orphaned).binding.controller ∨ Instr.ask = Instr.seizeFrame ∧
      (⟨31, 7, .ask termsIdle⟩ : Frame).body = Body.seize termsIdle ∧ (machineIn .orphaned).binding.state =
      BindingState.orphaned) ∧ (termsIdle.zone ≠ zoneA ∨ (termsIdle.rights.drive && (Zones.lookup zoneA
      (machineHeard .orphaned 31 (.ask termsIdle)).zones).1.rights.drive) = false)) ∧
    (State.machineHears (machineIn .orphaned) ⟨50, 7, .seize termsIdle⟩ laterFrames (machineHeard .orphaned 50
      (.seize termsIdle)) ∧ (machineIn .orphaned).binding.machineZone = some zoneA ∧ (Instr.seizeFrame =
      Instr.ask ∧ (⟨50, 7, .seize termsIdle⟩ : Frame).body = Body.ask termsIdle ∧ (machineIn
      .orphaned).binding.state = BindingState.unbound ∨ Instr.seizeFrame = Instr.ask ∧ (⟨50, 7, .seize
      termsIdle⟩ : Frame).body = Body.ask termsIdle ∧ (machineIn .orphaned).binding.state = BindingState.bound ∧
      (⟨50, 7, .seize termsIdle⟩ : Frame).source ≠ (machineIn .orphaned).binding.controller ∨ Instr.seizeFrame =
      Instr.ask ∧ (⟨50, 7, .seize termsIdle⟩ : Frame).body = Body.ask termsIdle ∧ (machineIn
      .orphaned).binding.state = BindingState.orphaned ∧ (⟨50, 7, .seize termsIdle⟩ : Frame).source = (machineIn
      .orphaned).binding.controller ∨ Instr.seizeFrame = Instr.seizeFrame ∧ (⟨50, 7, .seize termsIdle⟩ :
      Frame).body = Body.seize termsIdle ∧ (machineIn .orphaned).binding.state = BindingState.orphaned) ∧
      (termsIdle.zone ≠ zoneA ∨ (termsIdle.rights.drive && (Zones.lookup zoneA (machineHeard .orphaned 50
      (.seize termsIdle)).zones).1.rights.drive) = false)) ∧
    (State.machineHears machineLost ⟨50, 7, .ask termsN⟩ [] (stationWith (Blocks.machine machineLost) [⟨50, 7,
      .ask termsN⟩]) ∧ machineLost.binding.machineZone = some zoneN ∧ (Instr.ask = Instr.ask ∧ (⟨50, 7, .ask
      termsN⟩ : Frame).body = Body.ask termsN ∧ machineLost.binding.state = BindingState.unbound ∨ Instr.ask =
      Instr.ask ∧ (⟨50, 7, .ask termsN⟩ : Frame).body = Body.ask termsN ∧ machineLost.binding.state =
      BindingState.bound ∧ (⟨50, 7, .ask termsN⟩ : Frame).source ≠ machineLost.binding.controller ∨ Instr.ask =
      Instr.ask ∧ (⟨50, 7, .ask termsN⟩ : Frame).body = Body.ask termsN ∧ machineLost.binding.state =
      BindingState.orphaned ∧ (⟨50, 7, .ask termsN⟩ : Frame).source = machineLost.binding.controller ∨ Instr.ask
      = Instr.seizeFrame ∧ (⟨50, 7, .ask termsN⟩ : Frame).body = Body.seize termsN ∧ machineLost.binding.state =
      BindingState.orphaned) ∧ (termsN.zone ≠ zoneN ∨ (termsN.rights.drive && (Zones.lookup zoneN (stationWith
      (Blocks.machine machineLost) [⟨50, 7, .ask termsN⟩]).zones).1.rights.drive) = false)) :=
  ⟨⟨⟨rfl, rfl, rfl⟩, .inl ⟨rfl, rfl, rfl, by decide, rfl⟩⟩, ⟨⟨rfl, rfl, rfl⟩, .inr (.inl ⟨rfl, rfl, by decide,
    rfl⟩)⟩, ⟨⟨rfl, rfl, rfl⟩, .inr (.inr (.inl ⟨rfl, rfl, ⟨transfer77, rfl⟩, rfl⟩))⟩, ⟨⟨rfl, rfl, rfl⟩, rfl,
    rfl, rfl⟩, ⟨⟨rfl, rfl, rfl⟩, rfl, rfl, by decide⟩, ⟨⟨rfl, rfl, rfl⟩, .inr (.inr (.inr ⟨rfl, rfl, rfl, rfl,
    rfl⟩))⟩, ⟨⟨rfl, rfl, rfl⟩, rfl, rfl⟩, ⟨⟨rfl, rfl, rfl⟩, rfl, by decide, by decide⟩, ⟨⟨rfl, rfl, rfl⟩, rfl,
    by decide, by decide⟩, ⟨⟨rfl, rfl, rfl⟩, rfl, by decide, by decide⟩, ⟨⟨rfl, rfl, rfl⟩, rfl, by decide,
    by decide⟩, ⟨⟨rfl, rfl, rfl⟩, rfl, by decide, by decide⟩⟩

theorem witness_AskAtABoundMachine :
    (State.machineHears (machineIn .bound) ⟨50, 7, .ask termsA⟩ laterFrames (machineHeard .bound 50 (.ask
      termsA)) ∧ (⟨50, 7, .ask termsA⟩ : Frame).body = Body.ask termsA ∧ (machineIn .bound).binding.state =
      BindingState.bound ∧ (⟨50, 7, .ask termsA⟩ : Frame).source ≠ (machineIn .bound).binding.controller ∧
      (machineIn .bound).binding.machineZone = some termsA.zone ∧ (termsA.rights.drive && (Zones.lookup
      termsA.zone (machineHeard .bound 50 (.ask termsA)).zones).1.rights.drive) = true) ∧
    (State.machineHears (machineIn .bound) ⟨31, 7, .ask termsA⟩ laterFrames (machineHeard .bound 31 (.ask
      termsA)) ∧ (⟨31, 7, .ask termsA⟩ : Frame).body = Body.ask termsA ∧ (machineIn .bound).binding.state =
      BindingState.bound ∧ (⟨31, 7, .ask termsA⟩ : Frame).source = (machineIn .bound).binding.controller) :=
  ⟨⟨⟨rfl, rfl, rfl⟩, rfl, rfl, by decide, rfl, rfl⟩, ⟨⟨rfl, rfl, rfl⟩, rfl, rfl, rfl⟩⟩

theorem witness_YieldOpensATransfer :
    State.machineHears (machineIn (.proposed proposal44)) ⟨31, 7, .yield 65535 40⟩ laterFrames (machineHeard
      (.proposed proposal44) 31 (.yield 65535 40)) ∧ (⟨31, 7, .yield 65535 40⟩ : Frame).body = Body.yield 65535
      40 ∧ fromController (machineIn (.proposed proposal44)).binding (⟨31, 7, .yield 65535 40⟩ : Frame).source
      65535 = true ∧ (machineIn (.proposed proposal44)).binding.state = BindingState.proposed proposal44 :=
  ⟨⟨rfl, rfl, rfl⟩, rfl, rfl, rfl⟩

theorem witness_ProposalEnds :
    (State.machineHears (machineIn (.proposed proposal44)) ⟨31, 7, .decline 65535⟩ laterFrames (machineHeard
      (.proposed proposal44) 31 (.decline 65535)) ∧ (⟨31, 7, .decline 65535⟩ : Frame).body = Body.decline 65535
      ∧ fromController (machineIn (.proposed proposal44)).binding (⟨31, 7, .decline 65535⟩ : Frame).source 65535
      = true ∧ (machineIn (.proposed proposal44)).binding.state = BindingState.proposed proposal44) ∧
    (State.machineHears (machineIn .bound) ⟨31, 7, .decline 65535⟩ laterFrames (machineHeard .bound 31 (.decline
      65535)) ∧ (⟨31, 7, .decline 65535⟩ : Frame).body = Body.decline 65535 ∧ fromController (machineIn
      .bound).binding (⟨31, 7, .decline 65535⟩ : Frame).source 65535 = true ∧ ((machineIn .bound).binding.state
      = BindingState.bound ∨ ∃ r, (machineIn .bound).binding.state = BindingState.transfer r)) ∧
    (State.machineHears (machineIn (.transfer transfer77)) ⟨31, 7, .decline 65535⟩ laterFrames (machineHeard
      (.transfer transfer77) 31 (.decline 65535)) ∧ (⟨31, 7, .decline 65535⟩ : Frame).body = Body.decline 65535
      ∧ fromController (machineIn (.transfer transfer77)).binding (⟨31, 7, .decline 65535⟩ : Frame).source 65535
      = true ∧ ((machineIn (.transfer transfer77)).binding.state = BindingState.bound ∨ ∃ r, (machineIn
      (.transfer transfer77)).binding.state = BindingState.transfer r)) ∧
    (State.machineHears (machineIn (.proposed proposal44)) ⟨31, 7, .decline 65534⟩ laterFrames (machineHeard
      (.proposed proposal44) 31 (.decline 65534)) ∧ (⟨31, 7, .decline 65534⟩ : Frame).body = Body.decline 65534
      ∧ ((⟨31, 7, .decline 65534⟩ : Frame).source ≠ (machineIn (.proposed proposal44)).binding.controller ∨
      65534 ≠ (machineIn (.proposed proposal44)).binding.epoch ∨ (machineIn (.proposed
      proposal44)).binding.state = BindingState.unbound ∨ (machineIn (.proposed proposal44)).binding.state =
      BindingState.orphaned)) ∧
    (State.machineHears (machineIn (.proposed proposal44)) ⟨30, 7, .decline 65535⟩ laterFrames (machineHeard
      (.proposed proposal44) 30 (.decline 65535)) ∧ (⟨30, 7, .decline 65535⟩ : Frame).body = Body.decline 65535
      ∧ ((⟨30, 7, .decline 65535⟩ : Frame).source ≠ (machineIn (.proposed proposal44)).binding.controller ∨
      65535 ≠ (machineIn (.proposed proposal44)).binding.epoch ∨ (machineIn (.proposed
      proposal44)).binding.state = BindingState.unbound ∨ (machineIn (.proposed proposal44)).binding.state =
      BindingState.orphaned)) ∧
    ((machineHeard (.proposed proposal44) 31 .halt).blocks = Blocks.machine (machineIn (.proposed proposal44)) ∧
      (machineIn (.proposed proposal44)).binding.state = BindingState.proposed proposal44) :=
  ⟨⟨⟨rfl, rfl, rfl⟩, rfl, rfl, rfl⟩, ⟨⟨rfl, rfl, rfl⟩, rfl, rfl, .inl rfl⟩, ⟨⟨rfl, rfl, rfl⟩, rfl, rfl, .inr
    ⟨transfer77, rfl⟩⟩, ⟨⟨rfl, rfl, rfl⟩, rfl, by decide⟩, ⟨⟨rfl, rfl, rfl⟩, rfl, by decide⟩, ⟨rfl, rfl⟩⟩

theorem witness_ReleaseAndClearBinding :
    (State.machineHears (machineIn .bound) ⟨31, 7, .release 65535⟩ laterFrames (machineHeard .bound 31 (.release
      65535)) ∧ (⟨31, 7, .release 65535⟩ : Frame).body = Body.release 65535 ∧ fromController (machineIn
      .bound).binding (⟨31, 7, .release 65535⟩ : Frame).source 65535 = true ∧ (machineIn .bound).binding.state =
      BindingState.bound) ∧
    (State.machineHears (machineIn (.proposed proposal44)) ⟨31, 7, .release 65535⟩ laterFrames (machineHeard
      (.proposed proposal44) 31 (.release 65535)) ∧ (⟨31, 7, .release 65535⟩ : Frame).body = Body.release 65535
      ∧ fromController (machineIn (.proposed proposal44)).binding (⟨31, 7, .release 65535⟩ : Frame).source 65535
      = true ∧ (machineIn (.proposed proposal44)).binding.state = BindingState.proposed proposal44) ∧
    (State.machineHears (machineIn (.transfer transfer77)) ⟨31, 7, .release 65535⟩ laterFrames (machineHeard
      (.transfer transfer77) 31 (.release 65535)) ∧ (⟨31, 7, .release 65535⟩ : Frame).body = Body.release 65535
      ∧ fromController (machineIn (.transfer transfer77)).binding (⟨31, 7, .release 65535⟩ : Frame).source 65535
      = true ∧ (machineIn (.transfer transfer77)).binding.state = BindingState.transfer transfer77) ∧
    ((machineHeard .unbound 31 .halt).station = StationState.online ∧ (machineHeard .unbound 31 .halt).blocks =
      Blocks.machine (machineIn .unbound) ∧ (machineIn .unbound).binding.state = BindingState.unbound) ∧
    ((machineHeard .bound 31 .halt).station = StationState.online ∧ (machineHeard .bound 31 .halt).blocks =
      Blocks.machine (machineIn .bound) ∧ ((machineIn .bound).binding.state = BindingState.bound ∨ (machineIn
      .bound).binding.state = BindingState.orphaned)) ∧
    ((machineHeard .orphaned 31 .halt).station = StationState.online ∧ (machineHeard .orphaned 31 .halt).blocks
      = Blocks.machine (machineIn .orphaned) ∧ ((machineIn .orphaned).binding.state = BindingState.bound ∨
      (machineIn .orphaned).binding.state = BindingState.orphaned)) ∧
    ((machineHeard (.proposed proposal44) 31 .halt).station = StationState.online ∧ (machineHeard (.proposed
      proposal44) 31 .halt).blocks = Blocks.machine (machineIn (.proposed proposal44)) ∧ (machineIn (.proposed
      proposal44)).binding.state = BindingState.proposed proposal44) ∧
    ((machineHeard (.transfer transfer77) 31 .halt).station = StationState.online ∧ (machineHeard (.transfer
      transfer77) 31 .halt).blocks = Blocks.machine (machineIn (.transfer transfer77)) ∧ (machineIn (.transfer
      transfer77)).binding.state = BindingState.transfer transfer77) :=
  ⟨⟨⟨rfl, rfl, rfl⟩, rfl, rfl, rfl⟩, ⟨⟨rfl, rfl, rfl⟩, rfl, rfl, rfl⟩, ⟨⟨rfl, rfl, rfl⟩, rfl, rfl, rfl⟩, ⟨rfl,
    rfl, rfl⟩, ⟨rfl, rfl, by decide⟩, ⟨rfl, rfl, by decide⟩, ⟨rfl, rfl, rfl⟩, ⟨rfl, rfl, rfl⟩⟩

theorem witness_AdmitDriveAndStaleFrames :
    (State.machineHears (machineIn .bound) ⟨31, 7, .admission 65535 termsA⟩ laterFrames (machineHeard .bound 31
      (.admission 65535 termsA)) ∧ fromController (machineIn .bound).binding (⟨31, 7, .admission 65535 termsA⟩ :
      Frame).source 65535 = true ∧ (⟨31, 7, .admission 65535 termsA⟩ : Frame).body = Body.admission 65535 termsA
      ∧ (machineIn .bound).binding.machineZone = some termsA.zone) ∧
    (State.machineHears (machineIn .bound) ⟨31, 7, .admission 65535 proposal44.terms⟩ laterFrames (machineHeard
      .bound 31 (.admission 65535 proposal44.terms)) ∧ fromController (machineIn .bound).binding (⟨31, 7,
      .admission 65535 proposal44.terms⟩ : Frame).source 65535 = true ∧ (⟨31, 7, .admission 65535
      proposal44.terms⟩ : Frame).body = Body.admission 65535 proposal44.terms ∧ (machineIn
      .bound).binding.machineZone ≠ some proposal44.terms.zone) ∧
    (State.machineHears (machineIn (.transfer transfer77)) ⟨31, 7, .drive 65535 8 reverseDemand⟩ laterFrames
      (machineHeard (.transfer transfer77) 31 (.drive 65535 8 reverseDemand)) ∧ fromController (machineIn
      (.transfer transfer77)).binding (⟨31, 7, .drive 65535 8 reverseDemand⟩ : Frame).source 65535 = true ∧
      (⟨31, 7, .drive 65535 8 reverseDemand⟩ : Frame).body = Body.drive 65535 8 reverseDemand) ∧
    (State.machineHears (machineIn .bound) ⟨31, 7, .drive 65534 8 Setpoints.zero⟩ laterFrames (machineHeard
      .bound 31 (.drive 65534 8 Setpoints.zero)) ∧ ((⟨31, 7, .drive 65534 8 Setpoints.zero⟩ : Frame).source ≠
      (machineIn .bound).binding.controller ∨ 65534 ≠ (machineIn .bound).binding.epoch ∨ (machineIn
      .bound).binding.state = BindingState.unbound ∨ (machineIn .bound).binding.state = BindingState.orphaned) ∧
      ((Instr.drive = Instr.yield ∧ ∃ l, (⟨31, 7, .drive 65534 8 Setpoints.zero⟩ : Frame).body = Body.yield
      65534 l) ∨ Instr.drive = Instr.decline ∧ (⟨31, 7, .drive 65534 8 Setpoints.zero⟩ : Frame).body =
      Body.decline 65534 ∨ Instr.drive = Instr.release ∧ (⟨31, 7, .drive 65534 8 Setpoints.zero⟩ : Frame).body =
      Body.release 65534 ∨ (Instr.drive = Instr.admitFrame ∧ ∃ t, (⟨31, 7, .drive 65534 8 Setpoints.zero⟩ :
      Frame).body = Body.admission 65534 t) ∨ (Instr.drive = Instr.drive ∧ ∃ q d, (⟨31, 7, .drive 65534 8
      Setpoints.zero⟩ : Frame).body = Body.drive 65534 q d) ∨ Instr.drive = Instr.resume ∧ (⟨31, 7, .drive 65534
      8 Setpoints.zero⟩ : Frame).body = Body.resume 65534)) ∧
    (State.machineHears (machineIn .bound) ⟨31, 7, .yield 65535 20⟩ laterFrames (machineHeard .bound 31 (.yield
      65535 20)) ∧ (⟨31, 7, .yield 65535 20⟩ : Frame).body = Body.yield 65535 20 ∧ fromController (machineIn
      .bound).binding (⟨31, 7, .yield 65535 20⟩ : Frame).source 65535 = true ∧ ((machineIn .bound).binding.state
      = BindingState.bound ∨ ∃ r, (machineIn .bound).binding.state = BindingState.transfer r)) ∧
    (State.machineHears (machineIn (.transfer transfer77)) ⟨31, 7, .yield 65535 20⟩ laterFrames (machineHeard
      (.transfer transfer77) 31 (.yield 65535 20)) ∧ (⟨31, 7, .yield 65535 20⟩ : Frame).body = Body.yield 65535
      20 ∧ fromController (machineIn (.transfer transfer77)).binding (⟨31, 7, .yield 65535 20⟩ : Frame).source
      65535 = true ∧ ((machineIn (.transfer transfer77)).binding.state = BindingState.bound ∨ ∃ r, (machineIn
      (.transfer transfer77)).binding.state = BindingState.transfer r)) :=
  ⟨⟨⟨rfl, rfl, rfl⟩, rfl, rfl, rfl⟩, ⟨⟨rfl, rfl, rfl⟩, rfl, rfl, by decide⟩, ⟨⟨rfl, rfl, rfl⟩, rfl, rfl⟩, ⟨⟨rfl,
    rfl, rfl⟩, by decide, (by simp)⟩, ⟨⟨rfl, rfl, rfl⟩, rfl, rfl, .inl rfl⟩, ⟨⟨rfl, rfl, rfl⟩, rfl, rfl, .inr
    ⟨transfer77, rfl⟩⟩⟩

theorem witness_WitnessJudgesSegmentAndSum :
    (State.machineHears (machineIn (.transfer transfer77)) ⟨31, 7, .segment 77 2 0 [256#16, 119#16, 3#16, 4#16]⟩
      laterFrames (machineHeard (.transfer transfer77) 31 (.segment 77 2 0 [256#16, 119#16, 3#16, 4#16])) ∧
      (machineIn (.transfer transfer77)).binding.state = BindingState.transfer transfer77 ∧ (⟨31, 7, .segment 77
      2 0 [256#16, 119#16, 3#16, 4#16]⟩ : Frame).source = transfer77.sender ∧ (⟨31, 7, .segment 77 2 0 [256#16,
      119#16, 3#16, 4#16]⟩ : Frame).body = Body.segment transfer77.number 2 0 [256#16, 119#16, 3#16, 4#16] ∧ 0 =
      transfer77.witnessIndex ∧ transfer77.witnessIndex < transfer77.length ∧ 1 < transfer77.length) ∧
    (State.machineHears (machineIn (.transfer transferAt18)) ⟨31, 7, .segment 77 2 18 [256#16, 119#16, 3#16,
      4#16]⟩ laterFrames (machineHeard (.transfer transferAt18) 31 (.segment 77 2 18 [256#16, 119#16, 3#16,
      4#16])) ∧ (machineIn (.transfer transferAt18)).binding.state = BindingState.transfer transferAt18 ∧ (⟨31,
      7, .segment 77 2 18 [256#16, 119#16, 3#16, 4#16]⟩ : Frame).source = transferAt18.sender ∧ (⟨31, 7,
      .segment 77 2 18 [256#16, 119#16, 3#16, 4#16]⟩ : Frame).body = Body.segment transferAt18.number 2 18
      [256#16, 119#16, 3#16, 4#16] ∧ 18 = transferAt18.witnessIndex ∧ transferAt18.witnessIndex <
      transferAt18.length ∧ 1 < transferAt18.length) ∧
    (State.machineHears (machineIn (.transfer transfer77)) ⟨31, 7, .sum 77 20 9#16⟩ laterFrames (machineHeard
      (.transfer transfer77) 31 (.sum 77 20 9#16)) ∧ (machineIn (.transfer transfer77)).binding.state =
      BindingState.transfer transfer77 ∧ (⟨31, 7, .sum 77 20 9#16⟩ : Frame).source = transfer77.sender ∧ (⟨31,
      7, .sum 77 20 9#16⟩ : Frame).body = Body.sum transfer77.number 20 9#16) ∧
    (State.machineHears (machineIn (.transfer transfer77)) ⟨31, 7, .sum 77 21 9#16⟩ laterFrames (machineHeard
      (.transfer transfer77) 31 (.sum 77 21 9#16)) ∧ (machineIn (.transfer transfer77)).binding.state =
      BindingState.transfer transfer77 ∧ (⟨31, 7, .sum 77 21 9#16⟩ : Frame).source = transfer77.sender ∧ (⟨31,
      7, .sum 77 21 9#16⟩ : Frame).body = Body.sum transfer77.number 21 9#16) ∧
    (State.machineHears (machineIn (.transfer transferAt20)) ⟨31, 7, .sum 77 20 9#16⟩ laterFrames (machineHeard
      (.transfer transferAt20) 31 (.sum 77 20 9#16)) ∧ (machineIn (.transfer transferAt20)).binding.state =
      BindingState.transfer transferAt20 ∧ (⟨31, 7, .sum 77 20 9#16⟩ : Frame).source = transferAt20.sender ∧
      (⟨31, 7, .sum 77 20 9#16⟩ : Frame).body = Body.sum transferAt20.number 20 9#16) ∧
    (State.machineHears (machineIn (.transfer transfer77)) ⟨31, 7, .segment 77 4 9 [256#16, 119#16, 3#16, 4#16]⟩
      laterFrames (machineHeard (.transfer transfer77) 31 (.segment 77 4 9 [256#16, 119#16, 3#16, 4#16])) ∧
      (machineIn (.transfer transfer77)).binding.state = BindingState.transfer transfer77 ∧ (⟨31, 7, .segment 77
      4 9 [256#16, 119#16, 3#16, 4#16]⟩ : Frame).source = transfer77.sender ∧ (⟨31, 7, .segment 77 4 9 [256#16,
      119#16, 3#16, 4#16]⟩ : Frame).body = Body.segment transfer77.number 4 9 [256#16, 119#16, 3#16, 4#16] ∧
      transfer77.witnessIndex < 9 ∧ transfer77.witnessIndex ≠ transfer77.length ∧ transfer77.lastLagBurst ≠ some
      4 ∧ transfer77.lagCount < 4) ∧
    (State.machineHears (machineIn (.transfer transferLagged)) ⟨31, 7, .segment 77 4 9 [256#16, 119#16, 3#16,
      4#16]⟩ laterFrames (machineHeard (.transfer transferLagged) 31 (.segment 77 4 9 [256#16, 119#16, 3#16,
      4#16])) ∧ (machineIn (.transfer transferLagged)).binding.state = BindingState.transfer transferLagged ∧
      (⟨31, 7, .segment 77 4 9 [256#16, 119#16, 3#16, 4#16]⟩ : Frame).source = transferLagged.sender ∧ (⟨31, 7,
      .segment 77 4 9 [256#16, 119#16, 3#16, 4#16]⟩ : Frame).body = Body.segment transferLagged.number 4 9
      [256#16, 119#16, 3#16, 4#16] ∧ transferLagged.witnessIndex < 9 ∧ transferLagged.witnessIndex ≠
      transferLagged.length ∧ transferLagged.lastLagBurst ≠ some 4 ∧ 4 ≤ transferLagged.lagCount) ∧
    (State.machineHears (machineIn (.transfer transferAt20)) ⟨31, 7, .segment 77 2 2 [1#16, 2#16, 3#16]⟩
      laterFrames (machineHeard (.transfer transferAt20) 31 (.segment 77 2 2 [1#16, 2#16, 3#16])) ∧ (machineIn
      (.transfer transferAt20)).binding.state = BindingState.transfer transferAt20 ∧ (⟨31, 7, .segment 77 2 2
      [1#16, 2#16, 3#16]⟩ : Frame).body = Body.segment transferAt20.number 2 2 [1#16, 2#16, 3#16] ∧ (⟨31, 7,
      .segment 77 2 2 [1#16, 2#16, 3#16]⟩ : Frame).source = transferAt20.sender ∧ (transferAt20.witnessIndex =
      transferAt20.length ∨ 2 < transferAt20.witnessIndex ∨ transferAt20.witnessIndex < 2 ∧
      transferAt20.lastLagBurst = some 2)) ∧
    (State.machineHears (machineIn (.transfer transferAt18)) ⟨31, 7, .segment 77 2 17 [1#16, 2#16, 3#16]⟩
      laterFrames (machineHeard (.transfer transferAt18) 31 (.segment 77 2 17 [1#16, 2#16, 3#16])) ∧ (machineIn
      (.transfer transferAt18)).binding.state = BindingState.transfer transferAt18 ∧ (⟨31, 7, .segment 77 2 17
      [1#16, 2#16, 3#16]⟩ : Frame).body = Body.segment transferAt18.number 2 17 [1#16, 2#16, 3#16] ∧ (⟨31, 7,
      .segment 77 2 17 [1#16, 2#16, 3#16]⟩ : Frame).source = transferAt18.sender ∧ (transferAt18.witnessIndex =
      transferAt18.length ∨ 17 < transferAt18.witnessIndex ∨ transferAt18.witnessIndex < 17 ∧
      transferAt18.lastLagBurst = some 2)) ∧
    (State.machineHears (machineIn (.transfer transfer77)) ⟨31, 7, .segment 77 3 9 [1#16, 2#16, 3#16]⟩
      laterFrames (machineHeard (.transfer transfer77) 31 (.segment 77 3 9 [1#16, 2#16, 3#16])) ∧ (machineIn
      (.transfer transfer77)).binding.state = BindingState.transfer transfer77 ∧ (⟨31, 7, .segment 77 3 9 [1#16,
      2#16, 3#16]⟩ : Frame).body = Body.segment transfer77.number 3 9 [1#16, 2#16, 3#16] ∧ (⟨31, 7, .segment 77
      3 9 [1#16, 2#16, 3#16]⟩ : Frame).source = transfer77.sender ∧ (transfer77.witnessIndex = transfer77.length
      ∨ 9 < transfer77.witnessIndex ∨ transfer77.witnessIndex < 9 ∧ transfer77.lastLagBurst = some 3)) ∧
    (State.machineHears (machineIn (.transfer transfer77)) ⟨31, 7, .segment 78 2 0 [1#16, 2#16, 3#16]⟩
      laterFrames (machineHeard (.transfer transfer77) 31 (.segment 78 2 0 [1#16, 2#16, 3#16])) ∧ (machineIn
      (.transfer transfer77)).binding.state = BindingState.transfer transfer77 ∧ (⟨31, 7, .segment 78 2 0 [1#16,
      2#16, 3#16]⟩ : Frame).body = Body.segment 78 2 0 [1#16, 2#16, 3#16] ∧ (78 ≠ transfer77.number ∨ (⟨31, 7,
      .segment 78 2 0 [1#16, 2#16, 3#16]⟩ : Frame).source ≠ transfer77.sender)) ∧
    (State.machineHears (machineIn (.transfer transfer77)) ⟨31, 7, .sum 78 20 9#16⟩ laterFrames (machineHeard
      (.transfer transfer77) 31 (.sum 78 20 9#16)) ∧ (machineIn (.transfer transfer77)).binding.state =
      BindingState.transfer transfer77 ∧ (⟨31, 7, .sum 78 20 9#16⟩ : Frame).body = Body.sum 78 20 9#16 ∧ (78 ≠
      transfer77.number ∨ (⟨31, 7, .sum 78 20 9#16⟩ : Frame).source ≠ transfer77.sender)) ∧
    (State.machineHears (machineIn (.transfer transfer77)) ⟨44, 7, .segment 77 2 0 [1#16, 2#16, 3#16]⟩
      laterFrames (machineHeard (.transfer transfer77) 44 (.segment 77 2 0 [1#16, 2#16, 3#16])) ∧ (machineIn
      (.transfer transfer77)).binding.state = BindingState.transfer transfer77 ∧ (⟨44, 7, .segment 77 2 0 [1#16,
      2#16, 3#16]⟩ : Frame).body = Body.segment 77 2 0 [1#16, 2#16, 3#16] ∧ (77 ≠ transfer77.number ∨ (⟨44, 7,
      .segment 77 2 0 [1#16, 2#16, 3#16]⟩ : Frame).source ≠ transfer77.sender)) ∧
    (State.machineHears (machineIn (.transfer transfer77)) ⟨44, 7, .sum 77 20 9#16⟩ laterFrames (machineHeard
      (.transfer transfer77) 44 (.sum 77 20 9#16)) ∧ (machineIn (.transfer transfer77)).binding.state =
      BindingState.transfer transfer77 ∧ (⟨44, 7, .sum 77 20 9#16⟩ : Frame).body = Body.sum 77 20 9#16 ∧ (77 ≠
      transfer77.number ∨ (⟨44, 7, .sum 77 20 9#16⟩ : Frame).source ≠ transfer77.sender)) :=
  ⟨⟨⟨rfl, rfl, rfl⟩, rfl, rfl, rfl, rfl, by decide, by decide⟩, ⟨⟨rfl, rfl, rfl⟩, rfl, rfl, rfl, rfl, by decide,
    by decide⟩, ⟨⟨rfl, rfl, rfl⟩, rfl, rfl, rfl⟩, ⟨⟨rfl, rfl, rfl⟩, rfl, rfl, rfl⟩, ⟨⟨rfl, rfl, rfl⟩, rfl, rfl,
    rfl⟩, ⟨⟨rfl, rfl, rfl⟩, rfl, rfl, rfl, by decide, by decide, by decide, by decide⟩, ⟨⟨rfl, rfl, rfl⟩, rfl,
    rfl, rfl, by decide, by decide, by decide, by decide⟩, ⟨⟨rfl, rfl, rfl⟩, rfl, rfl, rfl, by decide⟩, ⟨⟨rfl,
    rfl, rfl⟩, rfl, rfl, rfl, by decide⟩, ⟨⟨rfl, rfl, rfl⟩, rfl, rfl, rfl, by decide⟩, ⟨⟨rfl, rfl, rfl⟩, rfl,
    rfl, by decide⟩, ⟨⟨rfl, rfl, rfl⟩, rfl, rfl, by decide⟩, ⟨⟨rfl, rfl, rfl⟩, rfl, rfl, by decide⟩, ⟨⟨rfl, rfl,
    rfl⟩, rfl, rfl, by decide⟩⟩

theorem witness_AcceptCommits :
    State.machineHears (machineIn (.transfer transferAgreed)) ⟨44, 7, .accept 77 5#16⟩ laterFrames (machineHeard
      (.transfer transferAgreed) 44 (.accept 77 5#16)) ∧ (machineIn (.transfer transferAgreed)).binding.state =
      BindingState.transfer transferAgreed ∧ (⟨44, 7, .accept 77 5#16⟩ : Frame).source = transferAgreed.receiver
      ∧ (⟨44, 7, .accept 77 5#16⟩ : Frame).body = Body.accept transferAgreed.number 5#16 ∧
      transferAgreed.firstError = none ∧ transferAgreed.witnessIndex = transferAgreed.length ∧
      transferAgreed.senderSum = some 5#16 ∧ transferAgreed.witnessSum = 5#16 :=
  ⟨⟨rfl, rfl, rfl⟩, rfl, rfl, rfl, rfl, rfl, rfl, rfl⟩

theorem witness_TransferAborts :
    ((machineIn (.transfer transfer77)).binding.state = BindingState.transfer transfer77 ∧ State.machineHears
      (machineIn (.transfer transfer77)) ⟨31, 7, .abandon 77 Reason.declined⟩ laterFrames (machineHeard
      (.transfer transfer77) 31 (.abandon 77 Reason.declined)) ∧ (Instr.abandon = Instr.abandon ∧ (⟨31, 7,
      .abandon 77 Reason.declined⟩ : Frame).source = transfer77.sender ∧ (∃ q, (⟨31, 7, .abandon 77
      Reason.declined⟩ : Frame).body = Body.abandon transfer77.number q) ∧ Reason.senderAbandon =
      Reason.senderAbandon ∨ Instr.abandon = Instr.abandon ∧ (⟨31, 7, .abandon 77 Reason.declined⟩ :
      Frame).source = transfer77.receiver ∧ transfer77.sender ≠ transfer77.receiver ∧ (∃ q, (⟨31, 7, .abandon 77
      Reason.declined⟩ : Frame).body = Body.abandon transfer77.number q ∧ q ≠ Reason.receiverBusy) ∧
      Reason.senderAbandon = Reason.receiverAbandon ∨ Instr.abandon = Instr.abandon ∧ (⟨31, 7, .abandon 77
      Reason.declined⟩ : Frame).source = transfer77.receiver ∧ transfer77.sender ≠ transfer77.receiver ∧ (⟨31,
      7, .abandon 77 Reason.declined⟩ : Frame).body = Body.abandon transfer77.number Reason.receiverBusy ∧
      Reason.senderAbandon = Reason.receiverBusy ∨ Instr.abandon = Instr.accept ∧ (⟨31, 7, .abandon 77
      Reason.declined⟩ : Frame).source = transfer77.receiver ∧ transfer77.witnessIndex = transfer77.length ∧ (∃
      w σ, (⟨31, 7, .abandon 77 Reason.declined⟩ : Frame).body = Body.accept transfer77.number w ∧
      transfer77.senderSum = some σ ∧ (σ ≠ w ∨ w ≠ transfer77.witnessSum)) ∧ Reason.senderAbandon =
      Reason.contextMismatch ∨ Instr.abandon = Instr.accept ∧ (⟨31, 7, .abandon 77 Reason.declined⟩ :
      Frame).source = transfer77.receiver ∧ (∃ w, (⟨31, 7, .abandon 77 Reason.declined⟩ : Frame).body =
      Body.accept transfer77.number w) ∧ transfer77.firstError = some Reason.senderAbandon ∨ Instr.abandon =
      Instr.accept ∧ (⟨31, 7, .abandon 77 Reason.declined⟩ : Frame).source = transfer77.receiver ∧ (∃ w, (⟨31,
      7, .abandon 77 Reason.declined⟩ : Frame).body = Body.accept transfer77.number w) ∧ transfer77.firstError =
      none ∧ (transfer77.witnessIndex < transfer77.length ∨ transfer77.witnessIndex = transfer77.length ∧
      transfer77.senderSum = none) ∧ 4 ≤ transfer77.lagCount ∧ Reason.senderAbandon = Reason.witnessGap)) ∧
    ((machineIn (.transfer transfer77)).binding.state = BindingState.transfer transfer77 ∧ State.machineHears
      (machineIn (.transfer transfer77)) ⟨44, 7, .abandon 77 Reason.declined⟩ laterFrames (machineHeard
      (.transfer transfer77) 44 (.abandon 77 Reason.declined)) ∧ (Instr.abandon = Instr.abandon ∧ (⟨44, 7,
      .abandon 77 Reason.declined⟩ : Frame).source = transfer77.sender ∧ (∃ q, (⟨44, 7, .abandon 77
      Reason.declined⟩ : Frame).body = Body.abandon transfer77.number q) ∧ Reason.receiverAbandon =
      Reason.senderAbandon ∨ Instr.abandon = Instr.abandon ∧ (⟨44, 7, .abandon 77 Reason.declined⟩ :
      Frame).source = transfer77.receiver ∧ transfer77.sender ≠ transfer77.receiver ∧ (∃ q, (⟨44, 7, .abandon 77
      Reason.declined⟩ : Frame).body = Body.abandon transfer77.number q ∧ q ≠ Reason.receiverBusy) ∧
      Reason.receiverAbandon = Reason.receiverAbandon ∨ Instr.abandon = Instr.abandon ∧ (⟨44, 7, .abandon 77
      Reason.declined⟩ : Frame).source = transfer77.receiver ∧ transfer77.sender ≠ transfer77.receiver ∧ (⟨44,
      7, .abandon 77 Reason.declined⟩ : Frame).body = Body.abandon transfer77.number Reason.receiverBusy ∧
      Reason.receiverAbandon = Reason.receiverBusy ∨ Instr.abandon = Instr.accept ∧ (⟨44, 7, .abandon 77
      Reason.declined⟩ : Frame).source = transfer77.receiver ∧ transfer77.witnessIndex = transfer77.length ∧ (∃
      w σ, (⟨44, 7, .abandon 77 Reason.declined⟩ : Frame).body = Body.accept transfer77.number w ∧
      transfer77.senderSum = some σ ∧ (σ ≠ w ∨ w ≠ transfer77.witnessSum)) ∧ Reason.receiverAbandon =
      Reason.contextMismatch ∨ Instr.abandon = Instr.accept ∧ (⟨44, 7, .abandon 77 Reason.declined⟩ :
      Frame).source = transfer77.receiver ∧ (∃ w, (⟨44, 7, .abandon 77 Reason.declined⟩ : Frame).body =
      Body.accept transfer77.number w) ∧ transfer77.firstError = some Reason.receiverAbandon ∨ Instr.abandon =
      Instr.accept ∧ (⟨44, 7, .abandon 77 Reason.declined⟩ : Frame).source = transfer77.receiver ∧ (∃ w, (⟨44,
      7, .abandon 77 Reason.declined⟩ : Frame).body = Body.accept transfer77.number w) ∧ transfer77.firstError =
      none ∧ (transfer77.witnessIndex < transfer77.length ∨ transfer77.witnessIndex = transfer77.length ∧
      transfer77.senderSum = none) ∧ 4 ≤ transfer77.lagCount ∧ Reason.receiverAbandon = Reason.witnessGap)) ∧
    ((machineIn (.transfer transfer77)).binding.state = BindingState.transfer transfer77 ∧ State.machineHears
      (machineIn (.transfer transfer77)) ⟨44, 7, .abandon 77 Reason.receiverBusy⟩ laterFrames (machineHeard
      (.transfer transfer77) 44 (.abandon 77 Reason.receiverBusy)) ∧ (Instr.abandon = Instr.abandon ∧ (⟨44, 7,
      .abandon 77 Reason.receiverBusy⟩ : Frame).source = transfer77.sender ∧ (∃ q, (⟨44, 7, .abandon 77
      Reason.receiverBusy⟩ : Frame).body = Body.abandon transfer77.number q) ∧ Reason.receiverBusy =
      Reason.senderAbandon ∨ Instr.abandon = Instr.abandon ∧ (⟨44, 7, .abandon 77 Reason.receiverBusy⟩ :
      Frame).source = transfer77.receiver ∧ transfer77.sender ≠ transfer77.receiver ∧ (∃ q, (⟨44, 7, .abandon 77
      Reason.receiverBusy⟩ : Frame).body = Body.abandon transfer77.number q ∧ q ≠ Reason.receiverBusy) ∧
      Reason.receiverBusy = Reason.receiverAbandon ∨ Instr.abandon = Instr.abandon ∧ (⟨44, 7, .abandon 77
      Reason.receiverBusy⟩ : Frame).source = transfer77.receiver ∧ transfer77.sender ≠ transfer77.receiver ∧
      (⟨44, 7, .abandon 77 Reason.receiverBusy⟩ : Frame).body = Body.abandon transfer77.number
      Reason.receiverBusy ∧ Reason.receiverBusy = Reason.receiverBusy ∨ Instr.abandon = Instr.accept ∧ (⟨44, 7,
      .abandon 77 Reason.receiverBusy⟩ : Frame).source = transfer77.receiver ∧ transfer77.witnessIndex =
      transfer77.length ∧ (∃ w σ, (⟨44, 7, .abandon 77 Reason.receiverBusy⟩ : Frame).body = Body.accept
      transfer77.number w ∧ transfer77.senderSum = some σ ∧ (σ ≠ w ∨ w ≠ transfer77.witnessSum)) ∧
      Reason.receiverBusy = Reason.contextMismatch ∨ Instr.abandon = Instr.accept ∧ (⟨44, 7, .abandon 77
      Reason.receiverBusy⟩ : Frame).source = transfer77.receiver ∧ (∃ w, (⟨44, 7, .abandon 77
      Reason.receiverBusy⟩ : Frame).body = Body.accept transfer77.number w) ∧ transfer77.firstError = some
      Reason.receiverBusy ∨ Instr.abandon = Instr.accept ∧ (⟨44, 7, .abandon 77 Reason.receiverBusy⟩ :
      Frame).source = transfer77.receiver ∧ (∃ w, (⟨44, 7, .abandon 77 Reason.receiverBusy⟩ : Frame).body =
      Body.accept transfer77.number w) ∧ transfer77.firstError = none ∧ (transfer77.witnessIndex <
      transfer77.length ∨ transfer77.witnessIndex = transfer77.length ∧ transfer77.senderSum = none) ∧ 4 ≤
      transfer77.lagCount ∧ Reason.receiverBusy = Reason.witnessGap)) ∧
    ((machineIn (.transfer transferAgreed)).binding.state = BindingState.transfer transferAgreed ∧
      State.machineHears (machineIn (.transfer transferAgreed)) ⟨44, 7, .accept 77 9#16⟩ laterFrames
      (machineHeard (.transfer transferAgreed) 44 (.accept 77 9#16)) ∧ (Instr.accept = Instr.abandon ∧ (⟨44, 7,
      .accept 77 9#16⟩ : Frame).source = transferAgreed.sender ∧ (∃ q, (⟨44, 7, .accept 77 9#16⟩ : Frame).body =
      Body.abandon transferAgreed.number q) ∧ Reason.contextMismatch = Reason.senderAbandon ∨ Instr.accept =
      Instr.abandon ∧ (⟨44, 7, .accept 77 9#16⟩ : Frame).source = transferAgreed.receiver ∧
      transferAgreed.sender ≠ transferAgreed.receiver ∧ (∃ q, (⟨44, 7, .accept 77 9#16⟩ : Frame).body =
      Body.abandon transferAgreed.number q ∧ q ≠ Reason.receiverBusy) ∧ Reason.contextMismatch =
      Reason.receiverAbandon ∨ Instr.accept = Instr.abandon ∧ (⟨44, 7, .accept 77 9#16⟩ : Frame).source =
      transferAgreed.receiver ∧ transferAgreed.sender ≠ transferAgreed.receiver ∧ (⟨44, 7, .accept 77 9#16⟩ :
      Frame).body = Body.abandon transferAgreed.number Reason.receiverBusy ∧ Reason.contextMismatch =
      Reason.receiverBusy ∨ Instr.accept = Instr.accept ∧ (⟨44, 7, .accept 77 9#16⟩ : Frame).source =
      transferAgreed.receiver ∧ transferAgreed.witnessIndex = transferAgreed.length ∧ (∃ w σ, (⟨44, 7, .accept
      77 9#16⟩ : Frame).body = Body.accept transferAgreed.number w ∧ transferAgreed.senderSum = some σ ∧ (σ ≠ w
      ∨ w ≠ transferAgreed.witnessSum)) ∧ Reason.contextMismatch = Reason.contextMismatch ∨ Instr.accept =
      Instr.accept ∧ (⟨44, 7, .accept 77 9#16⟩ : Frame).source = transferAgreed.receiver ∧ (∃ w, (⟨44, 7,
      .accept 77 9#16⟩ : Frame).body = Body.accept transferAgreed.number w) ∧ transferAgreed.firstError = some
      Reason.contextMismatch ∨ Instr.accept = Instr.accept ∧ (⟨44, 7, .accept 77 9#16⟩ : Frame).source =
      transferAgreed.receiver ∧ (∃ w, (⟨44, 7, .accept 77 9#16⟩ : Frame).body = Body.accept
      transferAgreed.number w) ∧ transferAgreed.firstError = none ∧ (transferAgreed.witnessIndex <
      transferAgreed.length ∨ transferAgreed.witnessIndex = transferAgreed.length ∧ transferAgreed.senderSum =
      none) ∧ 4 ≤ transferAgreed.lagCount ∧ Reason.contextMismatch = Reason.witnessGap)) ∧
    ((machineIn (.transfer transferErred)).binding.state = BindingState.transfer transferErred ∧
      State.machineHears (machineIn (.transfer transferErred)) ⟨44, 7, .accept 77 9#16⟩ laterFrames
      (machineHeard (.transfer transferErred) 44 (.accept 77 9#16)) ∧ (Instr.accept = Instr.abandon ∧ (⟨44, 7,
      .accept 77 9#16⟩ : Frame).source = transferErred.sender ∧ (∃ q, (⟨44, 7, .accept 77 9#16⟩ : Frame).body =
      Body.abandon transferErred.number q) ∧ Reason.windowExpired = Reason.senderAbandon ∨ Instr.accept =
      Instr.abandon ∧ (⟨44, 7, .accept 77 9#16⟩ : Frame).source = transferErred.receiver ∧ transferErred.sender
      ≠ transferErred.receiver ∧ (∃ q, (⟨44, 7, .accept 77 9#16⟩ : Frame).body = Body.abandon
      transferErred.number q ∧ q ≠ Reason.receiverBusy) ∧ Reason.windowExpired = Reason.receiverAbandon ∨
      Instr.accept = Instr.abandon ∧ (⟨44, 7, .accept 77 9#16⟩ : Frame).source = transferErred.receiver ∧
      transferErred.sender ≠ transferErred.receiver ∧ (⟨44, 7, .accept 77 9#16⟩ : Frame).body = Body.abandon
      transferErred.number Reason.receiverBusy ∧ Reason.windowExpired = Reason.receiverBusy ∨ Instr.accept =
      Instr.accept ∧ (⟨44, 7, .accept 77 9#16⟩ : Frame).source = transferErred.receiver ∧
      transferErred.witnessIndex = transferErred.length ∧ (∃ w σ, (⟨44, 7, .accept 77 9#16⟩ : Frame).body =
      Body.accept transferErred.number w ∧ transferErred.senderSum = some σ ∧ (σ ≠ w ∨ w ≠
      transferErred.witnessSum)) ∧ Reason.windowExpired = Reason.contextMismatch ∨ Instr.accept = Instr.accept ∧
      (⟨44, 7, .accept 77 9#16⟩ : Frame).source = transferErred.receiver ∧ (∃ w, (⟨44, 7, .accept 77 9#16⟩ :
      Frame).body = Body.accept transferErred.number w) ∧ transferErred.firstError = some Reason.windowExpired ∨
      Instr.accept = Instr.accept ∧ (⟨44, 7, .accept 77 9#16⟩ : Frame).source = transferErred.receiver ∧ (∃ w,
      (⟨44, 7, .accept 77 9#16⟩ : Frame).body = Body.accept transferErred.number w) ∧ transferErred.firstError =
      none ∧ (transferErred.witnessIndex < transferErred.length ∨ transferErred.witnessIndex =
      transferErred.length ∧ transferErred.senderSum = none) ∧ 4 ≤ transferErred.lagCount ∧ Reason.windowExpired
      = Reason.witnessGap)) ∧
    ((machineIn (.transfer transfer77)).binding.state = BindingState.transfer transfer77 ∧ (machineHeard
      (.transfer transfer77) 31 .halt).blocks = Blocks.machine (machineIn (.transfer transfer77))) ∧
    ((machineIn (.transfer transfer77)).binding.state = BindingState.transfer transfer77 ∧ State.machineHears
      (machineIn (.transfer transfer77)) ⟨44, 7, .accept 77 9#16⟩ laterFrames (machineHeard (.transfer
      transfer77) 44 (.accept 77 9#16)) ∧ (⟨44, 7, .accept 77 9#16⟩ : Frame).source = transfer77.receiver ∧
      (⟨44, 7, .accept 77 9#16⟩ : Frame).body = Body.accept transfer77.number 9#16 ∧ transfer77.firstError =
      none ∧ transfer77.lagCount < 4 ∧ (transfer77.witnessIndex < transfer77.length ∧ 0 =
      transfer77.witnessIndex ∨ transfer77.witnessIndex = transfer77.length ∧ transfer77.senderSum = none ∧ 0 =
      transfer77.length - 1)) ∧
    ((machineIn (.transfer transferNoSum)).binding.state = BindingState.transfer transferNoSum ∧
      State.machineHears (machineIn (.transfer transferNoSum)) ⟨44, 7, .accept 77 9#16⟩ laterFrames
      (machineHeard (.transfer transferNoSum) 44 (.accept 77 9#16)) ∧ (⟨44, 7, .accept 77 9#16⟩ : Frame).source
      = transferNoSum.receiver ∧ (⟨44, 7, .accept 77 9#16⟩ : Frame).body = Body.accept transferNoSum.number 9#16
      ∧ transferNoSum.firstError = none ∧ transferNoSum.lagCount < 4 ∧ (transferNoSum.witnessIndex <
      transferNoSum.length ∧ 19 = transferNoSum.witnessIndex ∨ transferNoSum.witnessIndex = transferNoSum.length
      ∧ transferNoSum.senderSum = none ∧ 19 = transferNoSum.length - 1)) ∧
    ((machineIn (.transfer transferLagged)).binding.state = BindingState.transfer transferLagged ∧
      State.machineHears (machineIn (.transfer transferLagged)) ⟨44, 7, .accept 77 9#16⟩ laterFrames
      (machineHeard (.transfer transferLagged) 44 (.accept 77 9#16)) ∧ (Instr.accept = Instr.abandon ∧ (⟨44, 7,
      .accept 77 9#16⟩ : Frame).source = transferLagged.sender ∧ (∃ q, (⟨44, 7, .accept 77 9#16⟩ : Frame).body =
      Body.abandon transferLagged.number q) ∧ Reason.witnessGap = Reason.senderAbandon ∨ Instr.accept =
      Instr.abandon ∧ (⟨44, 7, .accept 77 9#16⟩ : Frame).source = transferLagged.receiver ∧
      transferLagged.sender ≠ transferLagged.receiver ∧ (∃ q, (⟨44, 7, .accept 77 9#16⟩ : Frame).body =
      Body.abandon transferLagged.number q ∧ q ≠ Reason.receiverBusy) ∧ Reason.witnessGap =
      Reason.receiverAbandon ∨ Instr.accept = Instr.abandon ∧ (⟨44, 7, .accept 77 9#16⟩ : Frame).source =
      transferLagged.receiver ∧ transferLagged.sender ≠ transferLagged.receiver ∧ (⟨44, 7, .accept 77 9#16⟩ :
      Frame).body = Body.abandon transferLagged.number Reason.receiverBusy ∧ Reason.witnessGap =
      Reason.receiverBusy ∨ Instr.accept = Instr.accept ∧ (⟨44, 7, .accept 77 9#16⟩ : Frame).source =
      transferLagged.receiver ∧ transferLagged.witnessIndex = transferLagged.length ∧ (∃ w σ, (⟨44, 7, .accept
      77 9#16⟩ : Frame).body = Body.accept transferLagged.number w ∧ transferLagged.senderSum = some σ ∧ (σ ≠ w
      ∨ w ≠ transferLagged.witnessSum)) ∧ Reason.witnessGap = Reason.contextMismatch ∨ Instr.accept =
      Instr.accept ∧ (⟨44, 7, .accept 77 9#16⟩ : Frame).source = transferLagged.receiver ∧ (∃ w, (⟨44, 7,
      .accept 77 9#16⟩ : Frame).body = Body.accept transferLagged.number w) ∧ transferLagged.firstError = some
      Reason.witnessGap ∨ Instr.accept = Instr.accept ∧ (⟨44, 7, .accept 77 9#16⟩ : Frame).source =
      transferLagged.receiver ∧ (∃ w, (⟨44, 7, .accept 77 9#16⟩ : Frame).body = Body.accept
      transferLagged.number w) ∧ transferLagged.firstError = none ∧ (transferLagged.witnessIndex <
      transferLagged.length ∨ transferLagged.witnessIndex = transferLagged.length ∧ transferLagged.senderSum =
      none) ∧ 4 ≤ transferLagged.lagCount ∧ Reason.witnessGap = Reason.witnessGap)) :=
  ⟨⟨rfl, ⟨rfl, rfl, rfl⟩, .inl ⟨rfl, rfl, ⟨_, rfl⟩, rfl⟩⟩, ⟨rfl, ⟨rfl, rfl, rfl⟩, .inr (.inl ⟨rfl, rfl,
    by decide, ⟨_, rfl, by decide⟩, rfl⟩)⟩, ⟨rfl, ⟨rfl, rfl, rfl⟩, .inr (.inr (.inl ⟨rfl, rfl, by decide, rfl,
    rfl⟩))⟩, ⟨rfl, ⟨rfl, rfl, rfl⟩, .inr (.inr (.inr (.inl ⟨rfl, rfl, rfl, ⟨_, _, rfl, rfl, .inl (by decide)⟩,
    rfl⟩)))⟩, ⟨rfl, ⟨rfl, rfl, rfl⟩, .inr (.inr (.inr (.inr (.inl ⟨rfl, rfl, ⟨_, rfl⟩, rfl⟩))))⟩, ⟨rfl, rfl⟩,
    ⟨rfl, ⟨rfl, rfl, rfl⟩, rfl, rfl, rfl, by decide, by decide⟩, ⟨rfl, ⟨rfl, rfl, rfl⟩, rfl, rfl, rfl,
    by decide, by decide⟩, ⟨rfl, ⟨rfl, rfl, rfl⟩, .inr (.inr (.inr (.inr (.inr ⟨rfl, rfl, ⟨_, rfl⟩, rfl, .inl
    (by decide), by decide, rfl⟩))))⟩⟩

theorem witness_HeartbeatAndBeaconExpiry :
    ((machineHeard .bound 31 .halt).blocks = Blocks.machine (machineIn .bound) ∧ (machineIn
      .bound).binding.heartbeat = some 5010 ∧ ((if (machineIn .bound).binding.seen = true then (machineIn
      .bound).binding.misses else (machineIn .bound).binding.misses + 1) < (machineHeard .bound 31
      .halt).config.missLimit)) ∧
    ((missedStation .bound).blocks = Blocks.machine (machineMissed .bound) ∧ (machineMissed
      .bound).binding.heartbeat = some 5010 ∧ ((missedStation .bound).config.missLimit ≤ if (machineMissed
      .bound).binding.seen = true then (machineMissed .bound).binding.misses else (machineMissed
      .bound).binding.misses + 1) ∧ (machineMissed .bound).binding.state = BindingState.bound) ∧
    ((missedStation (.proposed proposal44)).blocks = Blocks.machine (machineMissed (.proposed proposal44)) ∧
      (machineMissed (.proposed proposal44)).binding.heartbeat = some 5010 ∧ ((missedStation (.proposed
      proposal44)).config.missLimit ≤ if (machineMissed (.proposed proposal44)).binding.seen = true then
      (machineMissed (.proposed proposal44)).binding.misses else (machineMissed (.proposed
      proposal44)).binding.misses + 1) ∧ (machineMissed (.proposed proposal44)).binding.state =
      BindingState.proposed proposal44) ∧
    ((missedStation (.transfer transfer77)).blocks = Blocks.machine (machineMissed (.transfer transfer77)) ∧
      (machineMissed (.transfer transfer77)).binding.heartbeat = some 5010 ∧ ((missedStation (.transfer
      transfer77)).config.missLimit ≤ if (machineMissed (.transfer transfer77)).binding.seen = true then
      (machineMissed (.transfer transfer77)).binding.misses else (machineMissed (.transfer
      transfer77)).binding.misses + 1) ∧ (machineMissed (.transfer transfer77)).binding.state =
      BindingState.transfer transfer77) ∧
    ((missedStation (.transfer transfer77)).blocks = Blocks.machine (machineMissed (.transfer transfer77)) ∧
      (machineMissed (.transfer transfer77)).binding.beaconTimer = some 5040) :=
  ⟨⟨rfl, rfl, by decide⟩, ⟨rfl, rfl, by decide, rfl⟩, ⟨rfl, rfl, by decide, rfl⟩, ⟨rfl, rfl, by decide, rfl⟩,
    ⟨rfl, rfl⟩⟩

theorem witness_SeatAskOccupiesASeat :
    (State.chairOnline (chairWith engineIdle) (chairHeard (chairWith engineIdle) 9 7 .halt) ∧ 1 ≤ ([61] : List
      Byte).length ∧ param [61] 0 = 61 ∧ (61 = 0 ∨ 60 < 61)) ∧
    (State.chairOnline chairReclaims (chairHeard chairReclaims 9 7 .halt) ∧ 1 ≤ ([24] : List Byte).length ∧
      param [24] 0 = 24 ∧ 1 ≤ 24 ∧ 24 ≤ 60 ∧ ChairBlocks.seatOf 24 1 chairReclaims ∧ ChairBlocks.recordOf 24
      chairReclaims = some record24 ∧ (chairReclaims.seats.get 1).state = SeatState.holding ∧ record24.state =
      BindingCode.orphaned ∧ record24.controller = (chairHeard chairReclaims 9 7 .halt).config.station ∧
      record24.epoch = (chairReclaims.seats.get 1).epoch) ∧
    (State.chairOnline (chairWith engineIdle) (chairHeard (chairWith engineIdle) 9 7 .halt) ∧ 1 ≤ ([22] : List
      Byte).length ∧ param [22] 0 = 22 ∧ 1 ≤ 22 ∧ 22 ≤ 60 ∧ ChairBlocks.seatOf 22 2 (chairWith engineIdle) ∧
      (((chairWith engineIdle).seats.get 2).state ≠ SeatState.holding ∨ ∀ (rec : FleetRecord),
      ChairBlocks.recordOf 22 (chairWith engineIdle) = some rec → rec.state ≠ BindingCode.orphaned ∨
      rec.controller ≠ (chairHeard (chairWith engineIdle) 9 7 .halt).config.station ∨ rec.epoch ≠ ((chairWith
      engineIdle).seats.get 2).epoch)) ∧
    (State.chairOnline (chairWith engineIdle) (chairHeard (chairWith engineIdle) 9 7 .halt) ∧ 1 ≤ ([60] : List
      Byte).length ∧ param [60] 0 = 60 ∧ 1 ≤ 60 ∧ 60 ≤ 60 ∧ ChairBlocks.unnamed 60 (chairWith engineIdle) ∧
      ChairBlocks.recordOf 60 (chairWith engineIdle) = none) ∧
    (State.chairOnline chairFull (chairHeard chairFull 9 7 .halt) ∧ 1 ≤ ([24] : List Byte).length ∧ param [24] 0
      = 24 ∧ 1 ≤ 24 ∧ 24 ≤ 60 ∧ ChairBlocks.unnamed 24 chairFull ∧ (ChairBlocks.recordOf 24 chairFull).isSome =
      true ∧ (∀ (i : Fin 4), (chairFull.seats.get i).state ≠ SeatState.free)) ∧
    (State.chairOnline (chairWith engineIdle) (chairHeard (chairWith engineIdle) 9 7 .halt) ∧ 1 ≤ ([24] : List
      Byte).length ∧ param [24] 0 = 24 ∧ 1 ≤ 24 ∧ 24 ≤ 60 ∧ ChairBlocks.unnamed 24 (chairWith engineIdle) ∧
      ChairBlocks.recordOf 24 (chairWith engineIdle) = some record24 ∧ ChairBlocks.firstFree 0 (chairWith
      engineIdle)) ∧
    (State.chairOnline (chairWith engineIdle) (chairHeard (chairWith engineIdle) 9 7 .halt) ∧ 1 ≤ ([25] : List
      Byte).length ∧ param [25] 0 = 25 ∧ 1 ≤ 25 ∧ 25 ≤ 60 ∧ ChairBlocks.unnamed 25 (chairWith engineIdle) ∧
      ChairBlocks.recordOf 25 (chairWith engineIdle) = some record25 ∧ ChairBlocks.firstFree 0 (chairWith
      engineIdle)) ∧
    (State.chairOnline (chairWith engineIdle) (chairHeard (chairWith engineIdle) 9 7 .halt) ∧ 1 ≤ ([21] : List
      Byte).length ∧ param [21] 0 = 21 ∧ 1 ≤ 21 ∧ 21 ≤ 60 ∧ ChairBlocks.seatOf 21 1 (chairWith engineIdle) ∧
      (((chairWith engineIdle).seats.get 1).state ≠ SeatState.holding ∨ ∀ (rec : FleetRecord),
      ChairBlocks.recordOf 21 (chairWith engineIdle) = some rec → rec.state ≠ BindingCode.orphaned ∨
      rec.controller ≠ (chairHeard (chairWith engineIdle) 9 7 .halt).config.station ∨ rec.epoch ≠ ((chairWith
      engineIdle).seats.get 1).epoch)) ∧
    (State.chairOnline chairStale (chairHeard chairStale 9 7 .halt) ∧ 1 ≤ ([24] : List Byte).length ∧ param [24]
      0 = 24 ∧ 1 ≤ 24 ∧ 24 ≤ 60 ∧ ChairBlocks.seatOf 24 1 chairStale ∧ ((chairStale.seats.get 1).state ≠
      SeatState.holding ∨ ∀ (rec : FleetRecord), ChairBlocks.recordOf 24 chairStale = some rec → rec.state ≠
      BindingCode.orphaned ∨ rec.controller ≠ (chairHeard chairStale 9 7 .halt).config.station ∨ rec.epoch ≠
      (chairStale.seats.get 1).epoch)) :=
  ⟨⟨⟨rfl, rfl⟩, by decide, rfl, by decide⟩, ⟨⟨rfl, rfl⟩, by decide, rfl, by decide, by decide, ⟨rfl, by decide⟩,
    rfl, rfl, rfl, rfl, rfl⟩, ⟨⟨rfl, rfl⟩, by decide, rfl, by decide, by decide, ⟨rfl, by decide⟩, by decide⟩,
    ⟨⟨rfl, rfl⟩, by decide, rfl, by decide, by decide, (by unfold ChairBlocks.unnamed; decide), rfl⟩, ⟨⟨rfl,
    rfl⟩, by decide, rfl, by decide, by decide, (by unfold ChairBlocks.unnamed; decide), rfl, by decide⟩, ⟨⟨rfl,
    rfl⟩, by decide, rfl, by decide, by decide, (by unfold ChairBlocks.unnamed; decide), rfl, ⟨rfl, by decide⟩⟩,
    ⟨⟨rfl, rfl⟩, by decide, rfl, by decide, by decide, (by unfold ChairBlocks.unnamed; decide), rfl, ⟨rfl,
    by decide⟩⟩, ⟨⟨rfl, rfl⟩, by decide, rfl, by decide, by decide, ⟨rfl, by decide⟩, by decide⟩, ⟨⟨rfl, rfl⟩,
    by decide, rfl, by decide, by decide, ⟨rfl, by decide⟩, by decide⟩⟩

theorem witness_SeizureTakesTwoCommands :
    (State.chairOnline (chairWith engineIdle) (chairHeard (chairWith engineIdle) 9 7 .halt) ∧ 1 ≤ ([0] : List
      Byte).length ∧ param [0] 0 = 0 ∧ (0 = 0 ∨ 60 < 0)) ∧
    (State.chairOnline (chairWith engineIdle) (chairHeard (chairWith engineIdle) 9 7 .halt) ∧ 1 ≤ ([61] : List
      Byte).length ∧ param [61] 0 = 61 ∧ (61 = 0 ∨ 60 < 61)) ∧
    (State.chairOnline (chairWith engineIdle) (chairHeard (chairWith engineIdle) 9 7 .halt) ∧ 1 ≤ ([60] : List
      Byte).length ∧ param [60] 0 = 60 ∧ 1 ≤ 60 ∧ 60 ≤ 60 ∧ ChairBlocks.recordOf 60 (chairWith engineIdle) =
      none) ∧
    (State.chairOnline (chairWith engineIdle) (chairHeard (chairWith engineIdle) 9 7 .halt) ∧ 1 ≤ ([25] : List
      Byte).length ∧ param [25] 0 = 25 ∧ 1 ≤ 25 ∧ 25 ≤ 60 ∧ ChairBlocks.recordOf 25 (chairWith engineIdle) =
      some record25 ∧ record25.state ≠ BindingCode.orphaned) ∧
    (State.chairOnline chairReclaims (chairHeard chairReclaims 9 7 .halt) ∧ 1 ≤ ([24] : List Byte).length ∧
      param [24] 0 = 24 ∧ 1 ≤ 24 ∧ 24 ≤ 60 ∧ ChairBlocks.recordOf 24 chairReclaims = some record24 ∧
      record24.state = BindingCode.orphaned ∧ (∃ i, Seat.names 24 (chairReclaims.seats.get i) = true)) ∧
    (State.chairOnline chairFull (chairHeard chairFull 9 7 .halt) ∧ 1 ≤ ([24] : List Byte).length ∧ param [24] 0
      = 24 ∧ 1 ≤ 24 ∧ 24 ≤ 60 ∧ ChairBlocks.recordOf 24 chairFull = some record24 ∧ record24.state =
      BindingCode.orphaned ∧ ChairBlocks.unnamed 24 chairFull ∧ (∀ (i : Fin 4), (chairFull.seats.get i).state ≠
      SeatState.free)) ∧
    (State.chairOnline (chairWith engineIdle) (chairHeard (chairWith engineIdle) 9 7 .halt) ∧ 1 ≤ ([24] : List
      Byte).length ∧ param [24] 0 = 24 ∧ 1 ≤ 24 ∧ 24 ≤ 60 ∧ ChairBlocks.recordOf 24 (chairWith engineIdle) =
      some record24 ∧ record24.state = BindingCode.orphaned ∧ ChairBlocks.unnamed 24 (chairWith engineIdle) ∧ (∃
      i, ((chairWith engineIdle).seats.get i).state = SeatState.free)) ∧
    (State.chairOnline (chairWith engineIdle) (chairHeard (chairWith engineIdle) 9 7 .halt) ∧ 1 ≤ ([25] : List
      Byte).length ∧ param [25] 0 = 25 ∧ (chairWith engineIdle).armed ≠ some 25) ∧
    (State.chairOnline chairArmed25 (chairHeard chairArmed25 9 7 .halt) ∧ 1 ≤ ([25] : List Byte).length ∧ param
      [25] 0 = 25 ∧ chairArmed25.armed = some 25 ∧ (∀ (rec : FleetRecord), ChairBlocks.recordOf 25 chairArmed25
      = some rec → rec.state ≠ BindingCode.orphaned)) ∧
    (State.chairOnline chairFull (chairHeard chairFull 9 7 .halt) ∧ 1 ≤ ([24] : List Byte).length ∧ param [24] 0
      = 24 ∧ chairFull.armed = some 24 ∧ ChairBlocks.recordOf 24 chairFull = some record24 ∧ record24.state =
      BindingCode.orphaned ∧ (∀ (i : Fin 4), (chairFull.seats.get i).state ≠ SeatState.free)) ∧
    (State.chairOnline (chairWith engineIdle) (chairHeard (chairWith engineIdle) 9 7 .halt) ∧ 1 ≤ ([24] : List
      Byte).length ∧ param [24] 0 = 24 ∧ (chairWith engineIdle).armed = some 24 ∧ ChairBlocks.recordOf 24
      (chairWith engineIdle) = some record24 ∧ record24.state = BindingCode.orphaned ∧ ChairBlocks.firstFree 0
      (chairWith engineIdle)) ∧
    (((availability (Instr.noticeRead [])).isSome = true ∨ Instr.noticeRead [] = Instr.hardReset) ∧ (∀ (ps :
      List Byte), Instr.noticeRead [] ≠ Instr.seizeArm ps) ∧ exec (.noticeRead []) (chairHeard (chairWith
      engineIdle) 9 7 .halt) = .next (after (.noticeRead []) (chairHeard (chairWith engineIdle) 9 7 .halt))) ∧
    (((availability Instr.hardReset).isSome = true ∨ Instr.hardReset = Instr.hardReset) ∧ (∀ (ps : List Byte),
      Instr.hardReset ≠ Instr.seizeArm ps) ∧ exec .hardReset (chairHeard (chairWith engineIdle) 9 7 .halt) =
      .next (after .hardReset (chairHeard (chairWith engineIdle) 9 7 .halt))) :=
  ⟨⟨⟨rfl, rfl⟩, by decide, rfl, by decide⟩, ⟨⟨rfl, rfl⟩, by decide, rfl, by decide⟩, ⟨⟨rfl, rfl⟩, by decide,
    rfl, by decide, by decide, rfl⟩, ⟨⟨rfl, rfl⟩, by decide, rfl, by decide, by decide, rfl, by decide⟩, ⟨⟨rfl,
    rfl⟩, by decide, rfl, by decide, by decide, rfl, rfl, by decide⟩, ⟨⟨rfl, rfl⟩, by decide, rfl, by decide,
    by decide, rfl, rfl, (by unfold ChairBlocks.unnamed; decide), by decide⟩, ⟨⟨rfl, rfl⟩, by decide, rfl,
    by decide, by decide, rfl, rfl, (by unfold ChairBlocks.unnamed; decide), by decide⟩, ⟨⟨rfl, rfl⟩, by decide,
    rfl, by decide⟩, ⟨⟨rfl, rfl⟩, by decide, rfl, rfl, by decide⟩, ⟨⟨rfl, rfl⟩, by decide, rfl, rfl, rfl, rfl,
    by decide⟩, ⟨⟨rfl, rfl⟩, by decide, rfl, rfl, rfl, rfl, ⟨rfl, by decide⟩⟩, ⟨by decide, (by simp), rfl⟩,
    ⟨by decide, (by simp), rfl⟩⟩

theorem witness_SeatYieldDeclineRelease :
    (State.chairOnline (chairWith engineIdle) (chairHeard (chairWith engineIdle) 9 7 .halt) ∧ 1 ≤ ([1] : List
      Byte).length ∧ param [1] 0 ≤ 3 ∧ ((chairWith engineIdle).seats.get (paramSeat [1])).state =
      SeatState.holding ∧ ((chairWith engineIdle).seats.get (paramSeat [1])).proposal = some
      { asker := 50, wait := some 5900 } ∧ ((chairWith engineIdle).engine.active.isSome = true ∨ ∃ j, j ≠
      paramSeat [1] ∧ ((chairWith engineIdle).seats.get j).state = SeatState.sending)) ∧
    (State.chairOnline chairShort (chairHeard chairShort 9 7 .halt) ∧ 1 ≤ ([1] : List Byte).length ∧ param [1] 0
      ≤ 3 ∧ (chairShort.seats.get (paramSeat [1])).state = SeatState.holding ∧ (chairShort.seats.get (paramSeat
      [1])).proposal = some { asker := 50, wait := some 5900 } ∧ chairShort.engine.active = none ∧ (∀ (j : Fin
      4), j ≠ paramSeat [1] → (chairShort.seats.get j).state ≠ SeatState.sending) ∧ (chairShort.seats.get
      (paramSeat [1])).area.length < 8) ∧
    (State.chairOnline chairYields (chairHeard chairYields 9 7 .halt) ∧ 1 ≤ ([1] : List Byte).length ∧ param [1]
      0 ≤ 3 ∧ (chairYields.seats.get (paramSeat [1])).state = SeatState.holding ∧ (chairYields.seats.get
      (paramSeat [1])).proposal = some { asker := 50, wait := some 5900 } ∧ chairYields.engine.active = none ∧
      (∀ (j : Fin 4), j ≠ paramSeat [1] → (chairYields.seats.get j).state ≠ SeatState.sending) ∧ 8 ≤
      (chairYields.seats.get (paramSeat [1])).area.length) ∧
    (State.chairOnline (chairWith engineIdle) (chairHeard (chairWith engineIdle) 9 7 .halt) ∧ 1 ≤ ([1] : List
      Byte).length ∧ param [1] 0 ≤ 3 ∧ ((chairWith engineIdle).seats.get (paramSeat [1])).state =
      SeatState.holding ∧ ((chairWith engineIdle).seats.get (paramSeat [1])).proposal = some
      { asker := 50, wait := some 5900 }) ∧
    (State.chairOnline (chairWith engineIdle) (chairHeard (chairWith engineIdle) 9 7 .halt) ∧ 1 ≤ ([2] : List
      Byte).length ∧ param [2] 0 ≤ 3 ∧ (((chairWith engineIdle).seats.get (paramSeat [2])).state ≠
      SeatState.holding ∨ ((chairWith engineIdle).seats.get (paramSeat [2])).proposal = none)) ∧
    (State.chairOnline (chairWith engineIdle) (chairHeard (chairWith engineIdle) 9 7 .halt) ∧ 1 ≤ ([1] : List
      Byte).length ∧ param [1] 0 ≤ 3 ∧ (chairWith engineIdle).engine.locks (paramSeat [1]) = false ∧ ((chairWith
      engineIdle).seats.get (paramSeat [1])).state = SeatState.holding) ∧
    (State.chairOnline (chairWith engineIdle) (chairHeard (chairWith engineIdle) 9 7 .halt) ∧ 1 ≤ ([2] : List
      Byte).length ∧ param [2] 0 ≤ 3 ∧ (chairWith engineIdle).engine.locks (paramSeat [2]) = false ∧
      (((chairWith engineIdle).seats.get (paramSeat [2])).state = SeatState.asking ∨ ((chairWith
      engineIdle).seats.get (paramSeat [2])).state = SeatState.waiting ∨ ((chairWith engineIdle).seats.get
      (paramSeat [2])).state = SeatState.seizing)) ∧
    (State.chairOnline (chairWith engineIdle) (chairHeard (chairWith engineIdle) 9 7 .halt) ∧ 1 ≤ ([3] : List
      Byte).length ∧ param [3] 0 ≤ 3 ∧ (((chairWith engineIdle).seats.get (paramSeat [3])).state =
      SeatState.sending ∨ ((chairWith engineIdle).seats.get (paramSeat [3])).state = SeatState.receiving ∨
      ((chairWith engineIdle).seats.get (paramSeat [3])).state = SeatState.free)) :=
  ⟨⟨⟨rfl, rfl⟩, by decide, by decide, rfl, rfl, by decide⟩, ⟨⟨rfl, rfl⟩, by decide, by decide, rfl, rfl, rfl,
    by decide, by decide⟩, ⟨⟨rfl, rfl⟩, by decide, by decide, rfl, rfl, rfl, by decide, by decide⟩, ⟨⟨rfl, rfl⟩,
    by decide, by decide, rfl, rfl⟩, ⟨⟨rfl, rfl⟩, by decide, by decide, by decide⟩, ⟨⟨rfl, rfl⟩, by decide,
    by decide, rfl, rfl⟩, ⟨⟨rfl, rfl⟩, by decide, by decide, rfl, by decide⟩, ⟨⟨rfl, rfl⟩, by decide, by decide,
    by decide⟩⟩

theorem witness_SeatSetpointAndLimit :
    (State.chairOnline (chairWith engineIdle) (chairHeard (chairWith engineIdle) 9 7 .halt) ∧ param [1, 1, 0,
      200, 5, 156, 1] 0 ≤ 3 ∧ 7 ≤ ([1, 1, 0, 200, 5, 156, 1] : List Byte).length ∧ ((chairWith
      engineIdle).seats.get (paramSeat [1, 1, 0, 200, 5, 156, 1])).state ≠ SeatState.free) ∧
    (State.chairOnline (chairWith engineIdle) (chairHeard (chairWith engineIdle) 9 7 .halt) ∧ param [1, 0, 9,
      20, 5, 6, 1] 0 ≤ 3 ∧ 7 ≤ ([1, 0, 9, 20, 5, 6, 1] : List Byte).length ∧ ((chairWith engineIdle).seats.get
      (paramSeat [1, 0, 9, 20, 5, 6, 1])).state ≠ SeatState.free) ∧
    (State.chairOnline (chairWith engineIdle) (chairHeard (chairWith engineIdle) 9 7 .halt) ∧ param [0, 0, 9,
      20, 5, 6, 1] 0 ≤ 3 ∧ 7 ≤ ([0, 0, 9, 20, 5, 6, 1] : List Byte).length ∧ ((chairWith engineIdle).seats.get
      (paramSeat [0, 0, 9, 20, 5, 6, 1])).state = SeatState.free) ∧
    (State.chairOnline (chairWith engineIdle) (chairHeard (chairWith engineIdle) 9 7 .halt) ∧ param [2, 251] 0 ≤
      3 ∧ 2 ≤ ([2, 251] : List Byte).length ∧ ((chairWith engineIdle).seats.get (paramSeat [2, 251])).state ≠
      SeatState.holding ∧ ((chairWith engineIdle).seats.get (paramSeat [2, 251])).state ≠ SeatState.sending) ∧
    (State.chairOnline (chairWith engineIdle) (chairHeard (chairWith engineIdle) 9 7 .halt) ∧ param [1, 251] 0 ≤
      3 ∧ 2 ≤ ([1, 251] : List Byte).length ∧ (((chairWith engineIdle).seats.get (paramSeat [1, 251])).state =
      SeatState.holding ∨ ((chairWith engineIdle).seats.get (paramSeat [1, 251])).state = SeatState.sending) ∧
      ChairBlocks.recordOf ((chairWith engineIdle).seats.get (paramSeat [1, 251])).machine (chairWith
      engineIdle) = some record21 ∧ termsFrom record21.zone (min (param [1, 251] 1) 250) (Zones.lookup
      record21.zone (chairHeard (chairWith engineIdle) 9 7 .halt).zones).1 = ((chairWith engineIdle).seats.get
      (paramSeat [1, 251])).lastAdmitted) ∧
    (State.chairOnline (chairWith engineIdle) (chairHeard (chairWith engineIdle) 9 7 .halt) ∧ param [1, 100] 0 ≤
      3 ∧ 2 ≤ ([1, 100] : List Byte).length ∧ (((chairWith engineIdle).seats.get (paramSeat [1, 100])).state =
      SeatState.holding ∨ ((chairWith engineIdle).seats.get (paramSeat [1, 100])).state = SeatState.sending) ∧
      ChairBlocks.recordOf ((chairWith engineIdle).seats.get (paramSeat [1, 100])).machine (chairWith
      engineIdle) = some record21 ∧ termsFrom record21.zone (min (param [1, 100] 1) 250) (Zones.lookup
      record21.zone (chairHeard (chairWith engineIdle) 9 7 .halt).zones).1 ≠ ((chairWith engineIdle).seats.get
      (paramSeat [1, 100])).lastAdmitted) :=
  ⟨⟨⟨rfl, rfl⟩, by decide, by decide, by decide⟩, ⟨⟨rfl, rfl⟩, by decide, by decide, by decide⟩, ⟨⟨rfl, rfl⟩,
    by decide, by decide, rfl⟩, ⟨⟨rfl, rfl⟩, by decide, by decide, by decide, by decide⟩, ⟨⟨rfl, rfl⟩,
    by decide, by decide, by decide, rfl, rfl⟩, ⟨⟨rfl, rfl⟩, by decide, by decide, by decide, rfl, by decide⟩⟩

theorem witness_SeatHoldGoAbandon :
    (State.chairOnline (chairWith engineIdle) (chairHeard (chairWith engineIdle) 9 7 .halt) ∧ 1 ≤ ([3] : List
      Byte).length ∧ param [3] 0 ≤ 3 ∧ ((chairWith engineIdle).engine.active = none ∨ ∃ a, (chairWith
      engineIdle).engine.active = some a ∧ (a.seat ≠ paramSeat [3] ∨ ∃ x, a.side = Side.sender x))) ∧
    (State.chairOnline (chairWith (serving (receivingWork receiverRun)) seatReceiving) (chairHeard (chairWith
      (serving (receivingWork receiverRun)) seatReceiving) 9 7 .halt) ∧ 1 ≤ ([3] : List Byte).length ∧ param [3]
      0 ≤ 3 ∧ (chairWith (serving (receivingWork receiverRun)) seatReceiving).engine.active = some
      (receivingWork receiverRun) ∧ (receivingWork receiverRun).seat = paramSeat [3] ∧ (receivingWork
      receiverRun).side = Side.receiver receiverRun ∧ receiverRun.state = ReceiveState.run) ∧
    (State.chairOnline (chairWith (serving (receivingWork receiverCheck)) seatReceiving) (chairHeard (chairWith
      (serving (receivingWork receiverCheck)) seatReceiving) 9 7 .halt) ∧ 1 ≤ ([3] : List Byte).length ∧ param
      [3] 0 ≤ 3 ∧ (chairWith (serving (receivingWork receiverCheck)) seatReceiving).engine.active = some
      (receivingWork receiverCheck) ∧ (receivingWork receiverCheck).seat = paramSeat [3] ∧ (receivingWork
      receiverCheck).side = Side.receiver receiverCheck ∧ receiverCheck.state ≠ ReceiveState.run) ∧
    (State.chairOnline (chairWith (serving (receivingWork receiverRun)) seatReceiving) (chairHeard (chairWith
      (serving (receivingWork receiverRun)) seatReceiving) 9 7 .halt) ∧ 1 ≤ ([3] : List Byte).length ∧ param [3]
      0 ≤ 3 ∧ (chairWith (serving (receivingWork receiverRun)) seatReceiving).engine.active = some
      (receivingWork receiverRun) ∧ (receivingWork receiverRun).seat = paramSeat [3] ∧ (receivingWork
      receiverRun).side = Side.receiver receiverRun ∧ receiverRun.hostHold = false) ∧
    (State.chairOnline (chairWith (serving (receivingWork receiverPressed)) seatReceiving) (chairHeard
      (chairWith (serving (receivingWork receiverPressed)) seatReceiving) 9 7 .halt) ∧ 1 ≤ ([3] : List
      Byte).length ∧ param [3] 0 ≤ 3 ∧ (chairWith (serving (receivingWork receiverPressed))
      seatReceiving).engine.active = some (receivingWork receiverPressed) ∧ (receivingWork receiverPressed).seat
      = paramSeat [3] ∧ (receivingWork receiverPressed).side = Side.receiver receiverPressed ∧
      receiverPressed.hostHold = true ∧ receiverPressed.pressure = true) ∧
    (State.chairOnline (chairWith (serving (receivingWork receiverPaused)) seatReceiving) (chairHeard (chairWith
      (serving (receivingWork receiverPaused)) seatReceiving) 9 7 .halt) ∧ 1 ≤ ([3] : List Byte).length ∧ param
      [3] 0 ≤ 3 ∧ (chairWith (serving (receivingWork receiverPaused)) seatReceiving).engine.active = some
      (receivingWork receiverPaused) ∧ (receivingWork receiverPaused).seat = paramSeat [3] ∧ (receivingWork
      receiverPaused).side = Side.receiver receiverPaused ∧ receiverPaused.hostHold = true ∧
      receiverPaused.pressure = false ∧ receiverPaused.state = ReceiveState.paused) ∧
    (State.chairOnline (chairWith (serving (receivingWork receiverStopped)) seatReceiving) (chairHeard
      (chairWith (serving (receivingWork receiverStopped)) seatReceiving) 9 7 .halt) ∧ 1 ≤ ([3] : List
      Byte).length ∧ param [3] 0 ≤ 3 ∧ (chairWith (serving (receivingWork receiverStopped))
      seatReceiving).engine.active = some (receivingWork receiverStopped) ∧ (receivingWork receiverStopped).seat
      = paramSeat [3] ∧ (receivingWork receiverStopped).side = Side.receiver receiverStopped ∧
      receiverStopped.hostHold = true ∧ receiverStopped.pressure = false ∧ receiverStopped.state =
      ReceiveState.stopped) ∧
    (State.chairOnline (chairWith (serving (sendingWork senderRun))) (chairHeard (chairWith (serving
      (sendingWork senderRun))) 9 7 .halt) ∧ 1 ≤ ([3] : List Byte).length ∧ param [3] 0 ≤ 3 ∧ (chairWith
      (serving (sendingWork senderRun))).engine.active = some (sendingWork senderRun) ∧ (sendingWork
      senderRun).seat = paramSeat [3] ∧ (chairWith (serving (sendingWork senderRun))).engine.pendingReceive =
      none ∧ (sendingWork senderRun).side = Side.sender senderRun ∧ ((chairWith (serving (sendingWork
      senderRun))).seats.get (paramSeat [3])).state = SeatState.sending) ∧
    (State.chairOnline (chairWith (serving (receivingWork receiverRun)) seatReceiving) (chairHeard (chairWith
      (serving (receivingWork receiverRun)) seatReceiving) 9 7 .halt) ∧ 1 ≤ ([3] : List Byte).length ∧ param [3]
      0 ≤ 3 ∧ (chairWith (serving (receivingWork receiverRun)) seatReceiving).engine.active = some
      (receivingWork receiverRun) ∧ (receivingWork receiverRun).seat = paramSeat [3] ∧ (chairWith (serving
      (receivingWork receiverRun)) seatReceiving).engine.pendingReceive = none ∧ (receivingWork
      receiverRun).side = Side.receiver receiverRun ∧ ((chairWith (serving (receivingWork receiverRun))
      seatReceiving).seats.get (paramSeat [3])).state = SeatState.receiving) ∧
    (State.chairOnline (chairWith (serving (sendingWork senderRun))) (chairHeard (chairWith (serving
      (sendingWork senderRun))) 9 7 .halt) ∧ 1 ≤ ([1] : List Byte).length ∧ param [1] 0 ≤ 3 ∧ ((chairWith
      (serving (sendingWork senderRun))).seats.get (paramSeat [1])).state ≠ SeatState.sending ∧ ((chairWith
      (serving (sendingWork senderRun))).seats.get (paramSeat [1])).state ≠ SeatState.receiving) ∧
    (State.chairOnline (chairWith (serving (sendingWork senderRun))) (chairHeard (chairWith (serving
      (sendingWork senderRun))) 9 7 .halt) ∧ 1 ≤ ([1] : List Byte).length ∧ param [1] 0 ≤ 3 ∧ ((chairWith
      (serving (sendingWork senderRun))).engine.active = none ∨ ∃ a, (chairWith (serving (sendingWork
      senderRun))).engine.active = some a ∧ (a.seat ≠ paramSeat [1] ∨ ∃ x, a.side = Side.sender x))) ∧
    (State.chairOnline (chairWith (serving (sendingWork senderRun))) (chairHeard (chairWith (serving
      (sendingWork senderRun))) 9 7 .halt) ∧ 1 ≤ ([3] : List Byte).length ∧ param [3] 0 ≤ 3 ∧ ((chairWith
      (serving (sendingWork senderRun))).engine.active = none ∨ ∃ a, (chairWith (serving (sendingWork
      senderRun))).engine.active = some a ∧ (a.seat ≠ paramSeat [3] ∨ ∃ x, a.side = Side.sender x))) ∧
    (State.chairOnline (chairWith engineIdle) (chairHeard (chairWith engineIdle) 9 7 .halt) ∧ 1 ≤ ([3] : List
      Byte).length ∧ param [3] 0 ≤ 3 ∧ (∀ (a : ActiveTransfer), (chairWith engineIdle).engine.active = some a →
      a.seat ≠ paramSeat [3]) ∧ (∀ (p : PendingReceive), (chairWith engineIdle).engine.pendingReceive = some p →
      p.seat ≠ paramSeat [3]) ∧ ((chairWith engineIdle).seats.get (paramSeat [3])).transfer = some 77 ∧
      (((chairWith engineIdle).seats.get (paramSeat [3])).state = SeatState.sending ∧ Reason.senderAbandon =
      Reason.senderAbandon ∨ ((chairWith engineIdle).seats.get (paramSeat [3])).state = SeatState.receiving ∧
      Reason.senderAbandon = Reason.receiverAbandon)) ∧
    (State.chairOnline (chairWith engineIdle seatReceiving) (chairHeard (chairWith engineIdle seatReceiving) 9 7
      .halt) ∧ 1 ≤ ([3] : List Byte).length ∧ param [3] 0 ≤ 3 ∧ (∀ (a : ActiveTransfer), (chairWith engineIdle
      seatReceiving).engine.active = some a → a.seat ≠ paramSeat [3]) ∧ (∀ (p : PendingReceive), (chairWith
      engineIdle seatReceiving).engine.pendingReceive = some p → p.seat ≠ paramSeat [3]) ∧ ((chairWith
      engineIdle seatReceiving).seats.get (paramSeat [3])).transfer = some 77 ∧ (((chairWith engineIdle
      seatReceiving).seats.get (paramSeat [3])).state = SeatState.sending ∧ Reason.receiverAbandon =
      Reason.senderAbandon ∨ ((chairWith engineIdle seatReceiving).seats.get (paramSeat [3])).state =
      SeatState.receiving ∧ Reason.receiverAbandon = Reason.receiverAbandon)) ∧
    (State.chairOnline (chairWith engineIdle seatUnnumbered) (chairHeard (chairWith engineIdle seatUnnumbered) 9
      7 .halt) ∧ 1 ≤ ([3] : List Byte).length ∧ param [3] 0 ≤ 3 ∧ (∀ (a : ActiveTransfer), (chairWith engineIdle
      seatUnnumbered).engine.active = some a → a.seat ≠ paramSeat [3]) ∧ (∀ (p : PendingReceive), (chairWith
      engineIdle seatUnnumbered).engine.pendingReceive = some p → p.seat ≠ paramSeat [3]) ∧ ((chairWith
      engineIdle seatUnnumbered).seats.get (paramSeat [3])).transfer = none ∧ (((chairWith engineIdle
      seatUnnumbered).seats.get (paramSeat [3])).state = SeatState.sending ∨ ((chairWith engineIdle
      seatUnnumbered).seats.get (paramSeat [3])).state = SeatState.receiving)) ∧
    (State.chairOnline (chairPending (sendingWork senderRun) seatSending) (chairHeard (chairPending (sendingWork
      senderRun) seatSending) 9 7 .halt) ∧ 1 ≤ ([2] : List Byte).length ∧ param [2] 0 ≤ 3 ∧ (∀ (a :
      ActiveTransfer), (chairPending (sendingWork senderRun) seatSending).engine.active = some a → a.seat ≠
      paramSeat [2]) ∧ (chairPending (sendingWork senderRun) seatSending).engine.pendingReceive = some pending78
      ∧ pending78.seat = paramSeat [2] ∧ ((chairPending (sendingWork senderRun) seatSending).seats.get
      (paramSeat [2])).state = SeatState.receiving) :=
  ⟨⟨⟨rfl, rfl⟩, by decide, by decide, .inl rfl⟩, ⟨⟨rfl, rfl⟩, by decide, by decide, rfl, rfl, rfl, rfl⟩, ⟨⟨rfl,
    rfl⟩, by decide, by decide, rfl, rfl, rfl, by decide⟩, ⟨⟨rfl, rfl⟩, by decide, by decide, rfl, rfl, rfl,
    rfl⟩, ⟨⟨rfl, rfl⟩, by decide, by decide, rfl, rfl, rfl, rfl, rfl⟩, ⟨⟨rfl, rfl⟩, by decide, by decide, rfl,
    rfl, rfl, rfl, rfl, rfl⟩, ⟨⟨rfl, rfl⟩, by decide, by decide, rfl, rfl, rfl, rfl, rfl, rfl⟩, ⟨⟨rfl, rfl⟩,
    by decide, by decide, rfl, rfl, rfl, rfl, rfl⟩, ⟨⟨rfl, rfl⟩, by decide, by decide, rfl, rfl, rfl, rfl, rfl⟩,
    ⟨⟨rfl, rfl⟩, by decide, by decide, by decide, by decide⟩, ⟨⟨rfl, rfl⟩, by decide, by decide, .inr ⟨_, rfl,
    .inl (by decide)⟩⟩, ⟨⟨rfl, rfl⟩, by decide, by decide, .inr ⟨_, rfl, .inr ⟨_, rfl⟩⟩⟩, ⟨⟨rfl, rfl⟩,
    by decide, by decide, by decide, by decide, rfl, by decide⟩, ⟨⟨rfl, rfl⟩, by decide, by decide, by decide,
    by decide, rfl, by decide⟩, ⟨⟨rfl, rfl⟩, by decide, by decide, by decide, by decide, rfl, by decide⟩, ⟨⟨rfl,
    rfl⟩, by decide, by decide, by decide, rfl, rfl, rfl⟩⟩

theorem witness_ContextWriteStoresTheWords :
    (State.chairOnline (chairWith (serving (sendingWork senderRun))) (chairHeard (chairWith (serving
      (sendingWork senderRun))) 9 7 .halt) ∧ 4 ≤ ([3, 0, 2, 2, 0, 40, 1, 2, 3, 4] : List Byte).length ∧ param
      [3, 0, 2, 2, 0, 40, 1, 2, 3, 4] 0 ≤ 3 ∧ 1 ≤ param [3, 0, 2, 2, 0, 40, 1, 2, 3, 4] 3 ∧ param [3, 0, 2, 2,
      0, 40, 1, 2, 3, 4] 3 ≤ 16 ∧ 6 + 2 * param [3, 0, 2, 2, 0, 40, 1, 2, 3, 4] 3 ≤ ([3, 0, 2, 2, 0, 40, 1, 2,
      3, 4] : List Byte).length ∧ param2 [3, 0, 2, 2, 0, 40, 1, 2, 3, 4] 1 + param [3, 0, 2, 2, 0, 40, 1, 2, 3,
      4] 3 ≤ 384 ∧ param2 [3, 0, 2, 2, 0, 40, 1, 2, 3, 4] 4 ≤ 384 ∧ (chairWith (serving (sendingWork
      senderRun))).engine.locks (paramSeat [3, 0, 2, 2, 0, 40, 1, 2, 3, 4]) = true) ∧
    (State.chairOnline (chairWith (serving (sendingWork senderRun))) (chairHeard (chairWith (serving
      (sendingWork senderRun))) 9 7 .halt) ∧ 4 ≤ ([3, 1, 127, 2, 0, 40, 1, 2, 3, 4] : List Byte).length ∧ param
      [3, 1, 127, 2, 0, 40, 1, 2, 3, 4] 0 ≤ 3 ∧ 1 ≤ param [3, 1, 127, 2, 0, 40, 1, 2, 3, 4] 3 ∧ param [3, 1,
      127, 2, 0, 40, 1, 2, 3, 4] 3 ≤ 16 ∧ 6 + 2 * param [3, 1, 127, 2, 0, 40, 1, 2, 3, 4] 3 ≤ ([3, 1, 127, 2, 0,
      40, 1, 2, 3, 4] : List Byte).length ∧ (384 < param2 [3, 1, 127, 2, 0, 40, 1, 2, 3, 4] 1 + param [3, 1,
      127, 2, 0, 40, 1, 2, 3, 4] 3 ∨ 384 < param2 [3, 1, 127, 2, 0, 40, 1, 2, 3, 4] 4)) ∧
    (State.chairOnline (chairWith engineIdle) (chairHeard (chairWith engineIdle) 9 7 .halt) ∧ 4 ≤ ([1, 1, 126,
      2, 1, 128, 1, 2, 3, 4] : List Byte).length ∧ param [1, 1, 126, 2, 1, 128, 1, 2, 3, 4] 0 ≤ 3 ∧ 1 ≤ param
      [1, 1, 126, 2, 1, 128, 1, 2, 3, 4] 3 ∧ param [1, 1, 126, 2, 1, 128, 1, 2, 3, 4] 3 ≤ 16 ∧ 6 + 2 * param [1,
      1, 126, 2, 1, 128, 1, 2, 3, 4] 3 ≤ ([1, 1, 126, 2, 1, 128, 1, 2, 3, 4] : List Byte).length ∧ param2 [1, 1,
      126, 2, 1, 128, 1, 2, 3, 4] 1 + param [1, 1, 126, 2, 1, 128, 1, 2, 3, 4] 3 ≤ 384 ∧ param2 [1, 1, 126, 2,
      1, 128, 1, 2, 3, 4] 4 ≤ 384 ∧ (chairWith engineIdle).engine.locks (paramSeat [1, 1, 126, 2, 1, 128, 1, 2,
      3, 4]) = false ∧ storeWf 0 ((chairWith engineIdle).seats.get (paramSeat [1, 1, 126, 2, 1, 128, 1, 2, 3,
      4])).area.words = true) :=
  ⟨⟨⟨rfl, rfl⟩, by decide, by decide, by decide, by decide, by decide, by decide, by decide, rfl⟩, ⟨⟨rfl, rfl⟩,
    by decide, by decide, by decide, by decide, by decide, by decide⟩, ⟨⟨rfl, rfl⟩, by decide, by decide,
    by decide, by decide, by decide, by decide, by decide, rfl, rfl⟩⟩

theorem witness_HaltAndResumeMachine :
    (State.chairOnline (chairWith engineIdle) (chairHeard (chairWith engineIdle) 9 7 .halt) ∧ 1 ≤ ([60] : List
      Byte).length ∧ param [60] 0 = 60 ∧ (1 ≤ 60 ∧ 60 ≤ 60 ∨ 60 = 63)) ∧
    (State.chairOnline (chairWith engineIdle) (chairHeard (chairWith engineIdle) 9 7 .halt) ∧ 1 ≤ ([63] : List
      Byte).length ∧ param [63] 0 = 63 ∧ (1 ≤ 63 ∧ 63 ≤ 60 ∨ 63 = 63)) ∧
    (State.chairOnline (chairWith engineIdle) (chairHeard (chairWith engineIdle) 9 7 .halt) ∧ 1 ≤ ([61] : List
      Byte).length ∧ param [61] 0 = 61 ∧ (¬(1 ≤ 61 ∧ 61 ≤ 60 ∨ 61 = 63))) ∧
    (State.chairOnline (chairWith engineIdle) (chairHeard (chairWith engineIdle) 9 7 .halt) ∧ 1 ≤ ([23] : List
      Byte).length ∧ param [23] 0 = 23 ∧ ChairBlocks.seatOf 23 3 (chairWith engineIdle) ∧ (((chairWith
      engineIdle).seats.get 3).state = SeatState.holding ∨ ((chairWith engineIdle).seats.get 3).state =
      SeatState.sending)) ∧
    (State.chairOnline (chairWith engineIdle) (chairHeard (chairWith engineIdle) 9 7 .halt) ∧ 1 ≤ ([22] : List
      Byte).length ∧ param [22] 0 = 22 ∧ (∀ (i : Fin 4), Seat.names 22 ((chairWith engineIdle).seats.get i) =
      true → ((chairWith engineIdle).seats.get i).state ≠ SeatState.holding ∧ ((chairWith engineIdle).seats.get
      i).state ≠ SeatState.sending)) ∧
    (State.chairOnline (chairWith engineIdle) (chairHeard (chairWith engineIdle) 9 7 .halt) ∧ 1 ≤ ([24] : List
      Byte).length ∧ param [24] 0 = 24 ∧ (∀ (i : Fin 4), Seat.names 24 ((chairWith engineIdle).seats.get i) =
      true → ((chairWith engineIdle).seats.get i).state ≠ SeatState.holding ∧ ((chairWith engineIdle).seats.get
      i).state ≠ SeatState.sending)) :=
  ⟨⟨⟨rfl, rfl⟩, by decide, rfl, by decide⟩, ⟨⟨rfl, rfl⟩, by decide, rfl, by decide⟩, ⟨⟨rfl, rfl⟩, by decide,
    rfl, by decide⟩, ⟨⟨rfl, rfl⟩, by decide, rfl, ⟨rfl, by decide⟩, by decide⟩, ⟨⟨rfl, rfl⟩, by decide, rfl,
    by decide⟩, ⟨⟨rfl, rfl⟩, by decide, rfl, by decide⟩⟩

theorem witness_BeaconTaken :
    (State.chairHears (chairWith engineIdle) ⟨24, 63, .beacon BindingCode.orphaned 7 15 zoneB 55 true 4⟩
      laterBeacon (chairHeard (chairWith engineIdle) 24 63 (.beacon BindingCode.orphaned 7 15 zoneB 55 true 4))
      ∧ (⟨24, 63, .beacon BindingCode.orphaned 7 15 zoneB 55 true 4⟩ : Frame).body = Body.beacon
      BindingCode.orphaned 7 15 zoneB 55 true 4 ∧ (chairWith engineIdle).engine.unpressed ∧
      ((ChairBlocks.recordOf (⟨24, 63, .beacon BindingCode.orphaned 7 15 zoneB 55 true 4⟩ : Frame).source
      (chairWith engineIdle)).isSome = true ∨ (chairWith engineIdle).fleet.length < 32) ∧ ChairBlocks.unnamed
      (⟨24, 63, .beacon BindingCode.orphaned 7 15 zoneB 55 true 4⟩ : Frame).source (chairWith engineIdle)) ∧
    (State.chairHears (chairWith engineIdle) ⟨25, 63, .beacon BindingCode.orphaned 7 15 zoneB 55 true 4⟩
      laterBeacon (chairHeard (chairWith engineIdle) 25 63 (.beacon BindingCode.orphaned 7 15 zoneB 55 true 4))
      ∧ (⟨25, 63, .beacon BindingCode.orphaned 7 15 zoneB 55 true 4⟩ : Frame).body = Body.beacon
      BindingCode.orphaned 7 15 zoneB 55 true 4 ∧ (chairWith engineIdle).engine.unpressed ∧
      ((ChairBlocks.recordOf (⟨25, 63, .beacon BindingCode.orphaned 7 15 zoneB 55 true 4⟩ : Frame).source
      (chairWith engineIdle)).isSome = true ∨ (chairWith engineIdle).fleet.length < 32) ∧ ChairBlocks.unnamed
      (⟨25, 63, .beacon BindingCode.orphaned 7 15 zoneB 55 true 4⟩ : Frame).source (chairWith engineIdle)) ∧
    (State.chairHears (chairWith engineIdle) ⟨26, 63, .beacon BindingCode.orphaned 7 15 zoneB 55 true 4⟩
      laterBeacon (chairHeard (chairWith engineIdle) 26 63 (.beacon BindingCode.orphaned 7 15 zoneB 55 true 4))
      ∧ (⟨26, 63, .beacon BindingCode.orphaned 7 15 zoneB 55 true 4⟩ : Frame).body = Body.beacon
      BindingCode.orphaned 7 15 zoneB 55 true 4 ∧ (chairWith engineIdle).engine.unpressed ∧
      ((ChairBlocks.recordOf (⟨26, 63, .beacon BindingCode.orphaned 7 15 zoneB 55 true 4⟩ : Frame).source
      (chairWith engineIdle)).isSome = true ∨ (chairWith engineIdle).fleet.length < 32) ∧ ChairBlocks.unnamed
      (⟨26, 63, .beacon BindingCode.orphaned 7 15 zoneB 55 true 4⟩ : Frame).source (chairWith engineIdle)) ∧
    (State.chairHears (chairWith engineIdle) ⟨22, 63, .beacon BindingCode.bound 7 99 zoneB 55 true 4⟩
      laterBeacon (chairHeard (chairWith engineIdle) 22 63 (.beacon BindingCode.bound 7 99 zoneB 55 true 4)) ∧
      (⟨22, 63, .beacon BindingCode.bound 7 99 zoneB 55 true 4⟩ : Frame).body = Body.beacon BindingCode.bound 7
      99 zoneB 55 true 4 ∧ (chairWith engineIdle).engine.unpressed ∧ ((ChairBlocks.recordOf (⟨22, 63, .beacon
      BindingCode.bound 7 99 zoneB 55 true 4⟩ : Frame).source (chairWith engineIdle)).isSome = true ∨ (chairWith
      engineIdle).fleet.length < 32) ∧ ChairBlocks.seatOf (⟨22, 63, .beacon BindingCode.bound 7 99 zoneB 55 true
      4⟩ : Frame).source 2 (chairWith engineIdle) ∧ (((chairWith engineIdle).seats.get 2).state =
      SeatState.asking ∨ ((chairWith engineIdle).seats.get 2).state = SeatState.waiting ∨ ((chairWith
      engineIdle).seats.get 2).state = SeatState.seizing) ∧ BindingCode.bound = BindingCode.bound ∧ 7 =
      (chairHeard (chairWith engineIdle) 22 63 (.beacon BindingCode.bound 7 99 zoneB 55 true 4)).config.station
      ∧ ((chairWith engineIdle).seats.get 2).admitRepeat = none ∧ ((chairWith engineIdle).seats.get
      2).lastAdmitted.zone = zoneB) ∧
    (State.chairHears (chairWith engineIdle) ⟨22, 63, .beacon BindingCode.orphaned 7 99 zoneB 55 true 4⟩
      laterBeacon (chairHeard (chairWith engineIdle) 22 63 (.beacon BindingCode.orphaned 7 99 zoneB 55 true 4))
      ∧ (⟨22, 63, .beacon BindingCode.orphaned 7 99 zoneB 55 true 4⟩ : Frame).body = Body.beacon
      BindingCode.orphaned 7 99 zoneB 55 true 4 ∧ (chairWith engineIdle).engine.unpressed ∧
      ((ChairBlocks.recordOf (⟨22, 63, .beacon BindingCode.orphaned 7 99 zoneB 55 true 4⟩ : Frame).source
      (chairWith engineIdle)).isSome = true ∨ (chairWith engineIdle).fleet.length < 32) ∧ ChairBlocks.seatOf
      (⟨22, 63, .beacon BindingCode.orphaned 7 99 zoneB 55 true 4⟩ : Frame).source 2 (chairWith engineIdle) ∧
      (((chairWith engineIdle).seats.get 2).state = SeatState.asking ∨ ((chairWith engineIdle).seats.get
      2).state = SeatState.waiting ∨ ((chairWith engineIdle).seats.get 2).state = SeatState.seizing) ∧
      (BindingCode.orphaned ≠ BindingCode.bound ∨ 7 ≠ (chairHeard (chairWith engineIdle) 22 63 (.beacon
      BindingCode.orphaned 7 99 zoneB 55 true 4)).config.station) ∧ (∀ (t : Terms), ((chairWith
      engineIdle).seats.get 2).admitRepeat = some t → t.zone ≠ zoneB)) ∧
    (State.chairHears chairReasks ⟨22, 63, .beacon BindingCode.orphaned 7 99 zoneB 55 true 4⟩ laterBeacon
      (chairHeard chairReasks 22 63 (.beacon BindingCode.orphaned 7 99 zoneB 55 true 4)) ∧ (⟨22, 63, .beacon
      BindingCode.orphaned 7 99 zoneB 55 true 4⟩ : Frame).body = Body.beacon BindingCode.orphaned 7 99 zoneB 55
      true 4 ∧ chairReasks.engine.unpressed ∧ ((ChairBlocks.recordOf (⟨22, 63, .beacon BindingCode.orphaned 7 99
      zoneB 55 true 4⟩ : Frame).source chairReasks).isSome = true ∨ chairReasks.fleet.length < 32) ∧
      ChairBlocks.seatOf (⟨22, 63, .beacon BindingCode.orphaned 7 99 zoneB 55 true 4⟩ : Frame).source 2
      chairReasks ∧ ((chairReasks.seats.get 2).state = SeatState.asking ∨ (chairReasks.seats.get 2).state =
      SeatState.waiting ∨ (chairReasks.seats.get 2).state = SeatState.seizing) ∧ (BindingCode.orphaned ≠
      BindingCode.bound ∨ 7 ≠ (chairHeard chairReasks 22 63 (.beacon BindingCode.orphaned 7 99 zoneB 55 true
      4)).config.station) ∧ (chairReasks.seats.get 2).admitRepeat = some repeatB ∧ repeatB.zone = zoneB) ∧
    (State.chairHears chairReasks ⟨22, 63, .beacon BindingCode.orphaned 7 99 zoneN 55 true 4⟩ laterBeacon
      (chairHeard chairReasks 22 63 (.beacon BindingCode.orphaned 7 99 zoneN 55 true 4)) ∧ (⟨22, 63, .beacon
      BindingCode.orphaned 7 99 zoneN 55 true 4⟩ : Frame).body = Body.beacon BindingCode.orphaned 7 99 zoneN 55
      true 4 ∧ chairReasks.engine.unpressed ∧ ((ChairBlocks.recordOf (⟨22, 63, .beacon BindingCode.orphaned 7 99
      zoneN 55 true 4⟩ : Frame).source chairReasks).isSome = true ∨ chairReasks.fleet.length < 32) ∧
      ChairBlocks.seatOf (⟨22, 63, .beacon BindingCode.orphaned 7 99 zoneN 55 true 4⟩ : Frame).source 2
      chairReasks ∧ ((chairReasks.seats.get 2).state = SeatState.asking ∨ (chairReasks.seats.get 2).state =
      SeatState.waiting ∨ (chairReasks.seats.get 2).state = SeatState.seizing) ∧ (BindingCode.orphaned ≠
      BindingCode.bound ∨ 7 ≠ (chairHeard chairReasks 22 63 (.beacon BindingCode.orphaned 7 99 zoneN 55 true
      4)).config.station) ∧ (∀ (t : Terms), (chairReasks.seats.get 2).admitRepeat = some t → t.zone ≠ zoneN)) ∧
    (State.chairHears chairWaiting ⟨22, 63, .beacon BindingCode.bound 9 99 zoneB 55 true 4⟩ laterBeacon
      (chairHeard chairWaiting 22 63 (.beacon BindingCode.bound 9 99 zoneB 55 true 4)) ∧ (⟨22, 63, .beacon
      BindingCode.bound 9 99 zoneB 55 true 4⟩ : Frame).body = Body.beacon BindingCode.bound 9 99 zoneB 55 true 4
      ∧ chairWaiting.engine.unpressed ∧ ((ChairBlocks.recordOf (⟨22, 63, .beacon BindingCode.bound 9 99 zoneB 55
      true 4⟩ : Frame).source chairWaiting).isSome = true ∨ chairWaiting.fleet.length < 32) ∧ ChairBlocks.seatOf
      (⟨22, 63, .beacon BindingCode.bound 9 99 zoneB 55 true 4⟩ : Frame).source 2 chairWaiting ∧
      ((chairWaiting.seats.get 2).state = SeatState.asking ∨ (chairWaiting.seats.get 2).state =
      SeatState.waiting ∨ (chairWaiting.seats.get 2).state = SeatState.seizing) ∧ (BindingCode.bound ≠
      BindingCode.bound ∨ 9 ≠ (chairHeard chairWaiting 22 63 (.beacon BindingCode.bound 9 99 zoneB 55 true
      4)).config.station) ∧ (∀ (t : Terms), (chairWaiting.seats.get 2).admitRepeat = some t → t.zone ≠ zoneB)) ∧
    (State.chairHears (chairWith engineIdle) ⟨21, 63, .beacon BindingCode.bound 8 300 zoneA 55 true 4⟩
      laterBeacon (chairHeard (chairWith engineIdle) 21 63 (.beacon BindingCode.bound 8 300 zoneA 55 true 4)) ∧
      (⟨21, 63, .beacon BindingCode.bound 8 300 zoneA 55 true 4⟩ : Frame).body = Body.beacon BindingCode.bound 8
      300 zoneA 55 true 4 ∧ (chairWith engineIdle).engine.unpressed ∧ ((ChairBlocks.recordOf (⟨21, 63, .beacon
      BindingCode.bound 8 300 zoneA 55 true 4⟩ : Frame).source (chairWith engineIdle)).isSome = true ∨
      (chairWith engineIdle).fleet.length < 32) ∧ ChairBlocks.seatOf (⟨21, 63, .beacon BindingCode.bound 8 300
      zoneA 55 true 4⟩ : Frame).source 1 (chairWith engineIdle) ∧ (∀ (a : ActiveTransfer), (chairWith
      engineIdle).engine.active = some a → a.seat = 1 → (chairWith engineIdle).engine.pendingReceive = none) ∧
      ((chairWith engineIdle).seats.get 1).state = SeatState.holding ∧ (8 ≠ (chairHeard (chairWith engineIdle)
      21 63 (.beacon BindingCode.bound 8 300 zoneA 55 true 4)).config.station ∨ BindingCode.bound ≠
      BindingCode.transfer ∧ 300 ≠ ((chairWith engineIdle).seats.get 1).epoch)) ∧
    (State.chairHears (chairWith engineIdle) ⟨21, 63, .beacon BindingCode.bound 7 301 zoneA 55 true 4⟩
      laterBeacon (chairHeard (chairWith engineIdle) 21 63 (.beacon BindingCode.bound 7 301 zoneA 55 true 4)) ∧
      (⟨21, 63, .beacon BindingCode.bound 7 301 zoneA 55 true 4⟩ : Frame).body = Body.beacon BindingCode.bound 7
      301 zoneA 55 true 4 ∧ (chairWith engineIdle).engine.unpressed ∧ ((ChairBlocks.recordOf (⟨21, 63, .beacon
      BindingCode.bound 7 301 zoneA 55 true 4⟩ : Frame).source (chairWith engineIdle)).isSome = true ∨
      (chairWith engineIdle).fleet.length < 32) ∧ ChairBlocks.seatOf (⟨21, 63, .beacon BindingCode.bound 7 301
      zoneA 55 true 4⟩ : Frame).source 1 (chairWith engineIdle) ∧ (∀ (a : ActiveTransfer), (chairWith
      engineIdle).engine.active = some a → a.seat = 1 → (chairWith engineIdle).engine.pendingReceive = none) ∧
      ((chairWith engineIdle).seats.get 1).state = SeatState.holding ∧ (7 ≠ (chairHeard (chairWith engineIdle)
      21 63 (.beacon BindingCode.bound 7 301 zoneA 55 true 4)).config.station ∨ BindingCode.bound ≠
      BindingCode.transfer ∧ 301 ≠ ((chairWith engineIdle).seats.get 1).epoch)) ∧
    (State.chairHears (chairWith engineIdle) ⟨21, 63, .beacon BindingCode.bound 7 300 zoneA 55 true 4⟩
      laterBeacon (chairHeard (chairWith engineIdle) 21 63 (.beacon BindingCode.bound 7 300 zoneA 55 true 4)) ∧
      (⟨21, 63, .beacon BindingCode.bound 7 300 zoneA 55 true 4⟩ : Frame).body = Body.beacon BindingCode.bound 7
      300 zoneA 55 true 4 ∧ (chairWith engineIdle).engine.unpressed ∧ ((ChairBlocks.recordOf (⟨21, 63, .beacon
      BindingCode.bound 7 300 zoneA 55 true 4⟩ : Frame).source (chairWith engineIdle)).isSome = true ∨
      (chairWith engineIdle).fleet.length < 32) ∧ ChairBlocks.seatOf (⟨21, 63, .beacon BindingCode.bound 7 300
      zoneA 55 true 4⟩ : Frame).source 1 (chairWith engineIdle) ∧ (∀ (a : ActiveTransfer), (chairWith
      engineIdle).engine.active = some a → a.seat = 1 → (chairWith engineIdle).engine.pendingReceive = none) ∧
      ((chairWith engineIdle).seats.get 1).state = SeatState.holding ∧ 7 = (chairHeard (chairWith engineIdle) 21
      63 (.beacon BindingCode.bound 7 300 zoneA 55 true 4)).config.station ∧ (BindingCode.bound =
      BindingCode.transfer ∨ 300 = ((chairWith engineIdle).seats.get 1).epoch) ∧ ((chairWith
      engineIdle).seats.get 1).proposal = some { asker := 50, wait := some 5900 } ∧ BindingCode.bound =
      BindingCode.bound ∧ ((chairWith engineIdle).seats.get 1).admitRepeat = none ∧ ((chairWith
      engineIdle).seats.get 1).lastAdmitted.zone = zoneA) ∧
    (State.chairHears chairNoProposal ⟨21, 63, .beacon BindingCode.bound 7 300 zoneA 55 true 4⟩ laterBeacon
      (chairHeard chairNoProposal 21 63 (.beacon BindingCode.bound 7 300 zoneA 55 true 4)) ∧ (⟨21, 63, .beacon
      BindingCode.bound 7 300 zoneA 55 true 4⟩ : Frame).body = Body.beacon BindingCode.bound 7 300 zoneA 55 true
      4 ∧ chairNoProposal.engine.unpressed ∧ ((ChairBlocks.recordOf (⟨21, 63, .beacon BindingCode.bound 7 300
      zoneA 55 true 4⟩ : Frame).source chairNoProposal).isSome = true ∨ chairNoProposal.fleet.length < 32) ∧
      ChairBlocks.seatOf (⟨21, 63, .beacon BindingCode.bound 7 300 zoneA 55 true 4⟩ : Frame).source 1
      chairNoProposal ∧ (∀ (a : ActiveTransfer), chairNoProposal.engine.active = some a → a.seat = 1 →
      chairNoProposal.engine.pendingReceive = none) ∧ (chairNoProposal.seats.get 1).state = SeatState.holding ∧
      7 = (chairHeard chairNoProposal 21 63 (.beacon BindingCode.bound 7 300 zoneA 55 true 4)).config.station ∧
      (BindingCode.bound = BindingCode.transfer ∨ 300 = (chairNoProposal.seats.get 1).epoch) ∧
      ((chairNoProposal.seats.get 1).proposal = none ∨ BindingCode.bound ≠ BindingCode.bound) ∧
      (chairNoProposal.seats.get 1).lastAdmitted.zone = zoneA ∧ (∀ (t : Terms), (chairNoProposal.seats.get
      1).admitRepeat = some t → t.zone ≠ zoneA)) ∧
    (State.chairHears (chairWith engineIdle) ⟨21, 63, .beacon BindingCode.transfer 7 301 zoneA 55 true 4⟩
      laterBeacon (chairHeard (chairWith engineIdle) 21 63 (.beacon BindingCode.transfer 7 301 zoneA 55 true 4))
      ∧ (⟨21, 63, .beacon BindingCode.transfer 7 301 zoneA 55 true 4⟩ : Frame).body = Body.beacon
      BindingCode.transfer 7 301 zoneA 55 true 4 ∧ (chairWith engineIdle).engine.unpressed ∧
      ((ChairBlocks.recordOf (⟨21, 63, .beacon BindingCode.transfer 7 301 zoneA 55 true 4⟩ : Frame).source
      (chairWith engineIdle)).isSome = true ∨ (chairWith engineIdle).fleet.length < 32) ∧ ChairBlocks.seatOf
      (⟨21, 63, .beacon BindingCode.transfer 7 301 zoneA 55 true 4⟩ : Frame).source 1 (chairWith engineIdle) ∧
      (∀ (a : ActiveTransfer), (chairWith engineIdle).engine.active = some a → a.seat = 1 → (chairWith
      engineIdle).engine.pendingReceive = none) ∧ ((chairWith engineIdle).seats.get 1).state = SeatState.holding
      ∧ 7 = (chairHeard (chairWith engineIdle) 21 63 (.beacon BindingCode.transfer 7 301 zoneA 55 true
      4)).config.station ∧ (BindingCode.transfer = BindingCode.transfer ∨ 301 = ((chairWith
      engineIdle).seats.get 1).epoch) ∧ (((chairWith engineIdle).seats.get 1).proposal = none ∨
      BindingCode.transfer ≠ BindingCode.bound) ∧ ((chairWith engineIdle).seats.get 1).lastAdmitted.zone = zoneA
      ∧ (∀ (t : Terms), ((chairWith engineIdle).seats.get 1).admitRepeat = some t → t.zone ≠ zoneA)) ∧
    (State.chairHears chairRepeats ⟨21, 63, .beacon BindingCode.bound 7 300 zoneA 55 true 4⟩ laterBeacon
      (chairHeard chairRepeats 21 63 (.beacon BindingCode.bound 7 300 zoneA 55 true 4)) ∧ (⟨21, 63, .beacon
      BindingCode.bound 7 300 zoneA 55 true 4⟩ : Frame).body = Body.beacon BindingCode.bound 7 300 zoneA 55 true
      4 ∧ chairRepeats.engine.unpressed ∧ ((ChairBlocks.recordOf (⟨21, 63, .beacon BindingCode.bound 7 300 zoneA
      55 true 4⟩ : Frame).source chairRepeats).isSome = true ∨ chairRepeats.fleet.length < 32) ∧
      ChairBlocks.seatOf (⟨21, 63, .beacon BindingCode.bound 7 300 zoneA 55 true 4⟩ : Frame).source 1
      chairRepeats ∧ (∀ (a : ActiveTransfer), chairRepeats.engine.active = some a → a.seat = 1 →
      chairRepeats.engine.pendingReceive = none) ∧ (chairRepeats.seats.get 1).state = SeatState.holding ∧ 7 =
      (chairHeard chairRepeats 21 63 (.beacon BindingCode.bound 7 300 zoneA 55 true 4)).config.station ∧
      (BindingCode.bound = BindingCode.transfer ∨ 300 = (chairRepeats.seats.get 1).epoch) ∧
      ((chairRepeats.seats.get 1).proposal = none ∨ BindingCode.bound ≠ BindingCode.bound) ∧
      (chairRepeats.seats.get 1).admitRepeat = some seatHolding.lastAdmitted ∧ seatHolding.lastAdmitted.zone =
      zoneA) ∧
    (State.chairHears chairReadmitted ⟨21, 63, .beacon BindingCode.orphaned 7 300 zoneA 55 true 4⟩ laterBeacon
      (chairHeard chairReadmitted 21 63 (.beacon BindingCode.orphaned 7 300 zoneA 55 true 4)) ∧ (⟨21, 63,
      .beacon BindingCode.orphaned 7 300 zoneA 55 true 4⟩ : Frame).body = Body.beacon BindingCode.orphaned 7 300
      zoneA 55 true 4 ∧ chairReadmitted.engine.unpressed ∧ ((ChairBlocks.recordOf (⟨21, 63, .beacon
      BindingCode.orphaned 7 300 zoneA 55 true 4⟩ : Frame).source chairReadmitted).isSome = true ∨
      chairReadmitted.fleet.length < 32) ∧ ChairBlocks.seatOf (⟨21, 63, .beacon BindingCode.orphaned 7 300 zoneA
      55 true 4⟩ : Frame).source 1 chairReadmitted ∧ (∀ (a : ActiveTransfer), chairReadmitted.engine.active =
      some a → a.seat = 1 → chairReadmitted.engine.pendingReceive = none) ∧ (chairReadmitted.seats.get 1).state
      = SeatState.holding ∧ 7 = (chairHeard chairReadmitted 21 63 (.beacon BindingCode.orphaned 7 300 zoneA 55
      true 4)).config.station ∧ (BindingCode.orphaned = BindingCode.transfer ∨ 300 = (chairReadmitted.seats.get
      1).epoch) ∧ ((chairReadmitted.seats.get 1).proposal = none ∨ BindingCode.orphaned ≠ BindingCode.bound) ∧
      (chairReadmitted.seats.get 1).admitRepeat = some termsKept ∧ termsKept.zone = zoneA) ∧
    (State.chairHears chairStaleRepeat ⟨21, 63, .beacon BindingCode.orphaned 7 300 zoneA 55 true 4⟩ laterBeacon
      (chairHeard chairStaleRepeat 21 63 (.beacon BindingCode.orphaned 7 300 zoneA 55 true 4)) ∧ (⟨21, 63,
      .beacon BindingCode.orphaned 7 300 zoneA 55 true 4⟩ : Frame).body = Body.beacon BindingCode.orphaned 7 300
      zoneA 55 true 4 ∧ chairStaleRepeat.engine.unpressed ∧ ((ChairBlocks.recordOf (⟨21, 63, .beacon
      BindingCode.orphaned 7 300 zoneA 55 true 4⟩ : Frame).source chairStaleRepeat).isSome = true ∨
      chairStaleRepeat.fleet.length < 32) ∧ ChairBlocks.seatOf (⟨21, 63, .beacon BindingCode.orphaned 7 300
      zoneA 55 true 4⟩ : Frame).source 1 chairStaleRepeat ∧ (∀ (a : ActiveTransfer),
      chairStaleRepeat.engine.active = some a → a.seat = 1 → chairStaleRepeat.engine.pendingReceive = none) ∧
      (chairStaleRepeat.seats.get 1).state = SeatState.holding ∧ 7 = (chairHeard chairStaleRepeat 21 63 (.beacon
      BindingCode.orphaned 7 300 zoneA 55 true 4)).config.station ∧ (BindingCode.orphaned = BindingCode.transfer
      ∨ 300 = (chairStaleRepeat.seats.get 1).epoch) ∧ ((chairStaleRepeat.seats.get 1).proposal = none ∨
      BindingCode.orphaned ≠ BindingCode.bound) ∧ (chairStaleRepeat.seats.get 1).lastAdmitted.zone = zoneA ∧ (∀
      (t : Terms), (chairStaleRepeat.seats.get 1).admitRepeat = some t → t.zone ≠ zoneA)) ∧
    (State.chairHears chairNoProposal ⟨21, 63, .beacon BindingCode.bound 7 300 zoneB 55 true 4⟩ laterBeacon
      (chairHeard chairNoProposal 21 63 (.beacon BindingCode.bound 7 300 zoneB 55 true 4)) ∧ (⟨21, 63, .beacon
      BindingCode.bound 7 300 zoneB 55 true 4⟩ : Frame).body = Body.beacon BindingCode.bound 7 300 zoneB 55 true
      4 ∧ chairNoProposal.engine.unpressed ∧ ((ChairBlocks.recordOf (⟨21, 63, .beacon BindingCode.bound 7 300
      zoneB 55 true 4⟩ : Frame).source chairNoProposal).isSome = true ∨ chairNoProposal.fleet.length < 32) ∧
      ChairBlocks.seatOf (⟨21, 63, .beacon BindingCode.bound 7 300 zoneB 55 true 4⟩ : Frame).source 1
      chairNoProposal ∧ (∀ (a : ActiveTransfer), chairNoProposal.engine.active = some a → a.seat = 1 →
      chairNoProposal.engine.pendingReceive = none) ∧ (chairNoProposal.seats.get 1).state = SeatState.holding ∧
      7 = (chairHeard chairNoProposal 21 63 (.beacon BindingCode.bound 7 300 zoneB 55 true 4)).config.station ∧
      (BindingCode.bound = BindingCode.transfer ∨ 300 = (chairNoProposal.seats.get 1).epoch) ∧
      ((chairNoProposal.seats.get 1).proposal = none ∨ BindingCode.bound ≠ BindingCode.bound) ∧
      (chairNoProposal.seats.get 1).lastAdmitted.zone ≠ zoneB ∧ (∀ (t : Terms), (chairNoProposal.seats.get
      1).admitRepeat = some t → t.zone ≠ zoneB)) ∧
    (State.chairHears chairRepeats ⟨21, 63, .beacon BindingCode.proposed 7 300 zoneN 55 true 4⟩ laterBeacon
      (chairHeard chairRepeats 21 63 (.beacon BindingCode.proposed 7 300 zoneN 55 true 4)) ∧ (⟨21, 63, .beacon
      BindingCode.proposed 7 300 zoneN 55 true 4⟩ : Frame).body = Body.beacon BindingCode.proposed 7 300 zoneN
      55 true 4 ∧ chairRepeats.engine.unpressed ∧ ((ChairBlocks.recordOf (⟨21, 63, .beacon BindingCode.proposed
      7 300 zoneN 55 true 4⟩ : Frame).source chairRepeats).isSome = true ∨ chairRepeats.fleet.length < 32) ∧
      ChairBlocks.seatOf (⟨21, 63, .beacon BindingCode.proposed 7 300 zoneN 55 true 4⟩ : Frame).source 1
      chairRepeats ∧ (∀ (a : ActiveTransfer), chairRepeats.engine.active = some a → a.seat = 1 →
      chairRepeats.engine.pendingReceive = none) ∧ (chairRepeats.seats.get 1).state = SeatState.holding ∧ 7 =
      (chairHeard chairRepeats 21 63 (.beacon BindingCode.proposed 7 300 zoneN 55 true 4)).config.station ∧
      (BindingCode.proposed = BindingCode.transfer ∨ 300 = (chairRepeats.seats.get 1).epoch) ∧
      ((chairRepeats.seats.get 1).proposal = none ∨ BindingCode.proposed ≠ BindingCode.bound) ∧
      (chairRepeats.seats.get 1).lastAdmitted.zone ≠ zoneN ∧ (∀ (t : Terms), (chairRepeats.seats.get
      1).admitRepeat = some t → t.zone ≠ zoneN)) ∧
    (State.chairHears (chairWith (serving (sendingWork senderRun))) ⟨23, 63, .beacon BindingCode.unbound 0 14
      zoneB 55 true 4⟩ laterBeacon (chairHeard (chairWith (serving (sendingWork senderRun))) 23 63 (.beacon
      BindingCode.unbound 0 14 zoneB 55 true 4)) ∧ (⟨23, 63, .beacon BindingCode.unbound 0 14 zoneB 55 true 4⟩ :
      Frame).body = Body.beacon BindingCode.unbound 0 14 zoneB 55 true 4 ∧ (chairWith (serving (sendingWork
      senderRun))).engine.unpressed ∧ ((ChairBlocks.recordOf (⟨23, 63, .beacon BindingCode.unbound 0 14 zoneB 55
      true 4⟩ : Frame).source (chairWith (serving (sendingWork senderRun)))).isSome = true ∨ (chairWith (serving
      (sendingWork senderRun))).fleet.length < 32) ∧ ChairBlocks.seatOf (⟨23, 63, .beacon BindingCode.unbound 0
      14 zoneB 55 true 4⟩ : Frame).source 3 (chairWith (serving (sendingWork senderRun))) ∧ (∀ (a :
      ActiveTransfer), (chairWith (serving (sendingWork senderRun))).engine.active = some a → a.seat = 3 →
      (chairWith (serving (sendingWork senderRun))).engine.pendingReceive = none) ∧ ((chairWith (serving
      (sendingWork senderRun))).seats.get 3).state = SeatState.sending ∧ (BindingCode.unbound =
      BindingCode.unbound ∨ BindingCode.unbound = BindingCode.orphaned ∨ BindingCode.unbound = BindingCode.bound
      ∧ 0 ≠ (chairHeard (chairWith (serving (sendingWork senderRun))) 23 63 (.beacon BindingCode.unbound 0 14
      zoneB 55 true 4)).config.station ∧ ∀ (p : SeatProposal), ((chairWith (serving (sendingWork
      senderRun))).seats.get 3).proposal = some p → p.asker ≠ 0)) ∧
    (State.chairHears (chairWith (serving (sendingWork senderRun))) ⟨23, 63, .beacon BindingCode.bound 9 15
      zoneB 55 true 4⟩ laterBeacon (chairHeard (chairWith (serving (sendingWork senderRun))) 23 63 (.beacon
      BindingCode.bound 9 15 zoneB 55 true 4)) ∧ (⟨23, 63, .beacon BindingCode.bound 9 15 zoneB 55 true 4⟩ :
      Frame).body = Body.beacon BindingCode.bound 9 15 zoneB 55 true 4 ∧ (chairWith (serving (sendingWork
      senderRun))).engine.unpressed ∧ ((ChairBlocks.recordOf (⟨23, 63, .beacon BindingCode.bound 9 15 zoneB 55
      true 4⟩ : Frame).source (chairWith (serving (sendingWork senderRun)))).isSome = true ∨ (chairWith (serving
      (sendingWork senderRun))).fleet.length < 32) ∧ ChairBlocks.seatOf (⟨23, 63, .beacon BindingCode.bound 9 15
      zoneB 55 true 4⟩ : Frame).source 3 (chairWith (serving (sendingWork senderRun))) ∧ (∀ (a :
      ActiveTransfer), (chairWith (serving (sendingWork senderRun))).engine.active = some a → a.seat = 3 →
      (chairWith (serving (sendingWork senderRun))).engine.pendingReceive = none) ∧ ((chairWith (serving
      (sendingWork senderRun))).seats.get 3).state = SeatState.sending ∧ (BindingCode.bound =
      BindingCode.unbound ∨ BindingCode.bound = BindingCode.orphaned ∨ BindingCode.bound = BindingCode.bound ∧ 9
      ≠ (chairHeard (chairWith (serving (sendingWork senderRun))) 23 63 (.beacon BindingCode.bound 9 15 zoneB 55
      true 4)).config.station ∧ ∀ (p : SeatProposal), ((chairWith (serving (sendingWork senderRun))).seats.get
      3).proposal = some p → p.asker ≠ 9)) ∧
    (State.chairHears (chairWith (serving (sendingWork senderRun))) ⟨23, 63, .beacon BindingCode.bound 51 15
      zoneB 55 true 4⟩ laterBeacon (chairHeard (chairWith (serving (sendingWork senderRun))) 23 63 (.beacon
      BindingCode.bound 51 15 zoneB 55 true 4)) ∧ (⟨23, 63, .beacon BindingCode.bound 51 15 zoneB 55 true 4⟩ :
      Frame).body = Body.beacon BindingCode.bound 51 15 zoneB 55 true 4 ∧ (chairWith (serving (sendingWork
      senderRun))).engine.unpressed ∧ ((ChairBlocks.recordOf (⟨23, 63, .beacon BindingCode.bound 51 15 zoneB 55
      true 4⟩ : Frame).source (chairWith (serving (sendingWork senderRun)))).isSome = true ∨ (chairWith (serving
      (sendingWork senderRun))).fleet.length < 32) ∧ ChairBlocks.seatOf (⟨23, 63, .beacon BindingCode.bound 51
      15 zoneB 55 true 4⟩ : Frame).source 3 (chairWith (serving (sendingWork senderRun))) ∧ (∀ (a :
      ActiveTransfer), (chairWith (serving (sendingWork senderRun))).engine.active = some a → a.seat = 3 →
      (chairWith (serving (sendingWork senderRun))).engine.pendingReceive = none) ∧ ((chairWith (serving
      (sendingWork senderRun))).seats.get 3).state = SeatState.sending ∧ BindingCode.bound = BindingCode.bound ∧
      51 ≠ (chairHeard (chairWith (serving (sendingWork senderRun))) 23 63 (.beacon BindingCode.bound 51 15
      zoneB 55 true 4)).config.station ∧ ((chairWith (serving (sendingWork senderRun))).seats.get 3).proposal =
      some { asker := 51, wait := none } ∧ (⟨51, none⟩ : SeatProposal).asker = 51) ∧
    (State.chairHears (chairWith (serving (sendingWork senderRun))) ⟨23, 63, .beacon BindingCode.bound 7 14
      zoneB 55 true 0⟩ laterBeacon (chairHeard (chairWith (serving (sendingWork senderRun))) 23 63 (.beacon
      BindingCode.bound 7 14 zoneB 55 true 0)) ∧ (⟨23, 63, .beacon BindingCode.bound 7 14 zoneB 55 true 0⟩ :
      Frame).body = Body.beacon BindingCode.bound 7 14 zoneB 55 true 0 ∧ (chairWith (serving (sendingWork
      senderRun))).engine.unpressed ∧ ((ChairBlocks.recordOf (⟨23, 63, .beacon BindingCode.bound 7 14 zoneB 55
      true 0⟩ : Frame).source (chairWith (serving (sendingWork senderRun)))).isSome = true ∨ (chairWith (serving
      (sendingWork senderRun))).fleet.length < 32) ∧ ChairBlocks.seatOf (⟨23, 63, .beacon BindingCode.bound 7 14
      zoneB 55 true 0⟩ : Frame).source 3 (chairWith (serving (sendingWork senderRun))) ∧ (∀ (a :
      ActiveTransfer), (chairWith (serving (sendingWork senderRun))).engine.active = some a → a.seat = 3 →
      (chairWith (serving (sendingWork senderRun))).engine.pendingReceive = none) ∧ ((chairWith (serving
      (sendingWork senderRun))).seats.get 3).state = SeatState.sending ∧ ((chairWith (serving (sendingWork
      senderRun))).seats.get 3).admitRepeat = none ∧ ((chairWith (serving (sendingWork senderRun))).seats.get
      3).lastAdmitted.zone = zoneB ∧ BindingCode.bound = BindingCode.bound ∧ 7 = (chairHeard (chairWith (serving
      (sendingWork senderRun))) 23 63 (.beacon BindingCode.bound 7 14 zoneB 55 true 0)).config.station ∧ 0 = 0) ∧
    (State.chairHears (chairWith (serving (sendingWork senderRun))) ⟨23, 63, .beacon BindingCode.proposed 7 14
      zoneB 55 true 0⟩ laterBeacon (chairHeard (chairWith (serving (sendingWork senderRun))) 23 63 (.beacon
      BindingCode.proposed 7 14 zoneB 55 true 0)) ∧ (⟨23, 63, .beacon BindingCode.proposed 7 14 zoneB 55 true 0⟩
      : Frame).body = Body.beacon BindingCode.proposed 7 14 zoneB 55 true 0 ∧ (chairWith (serving (sendingWork
      senderRun))).engine.unpressed ∧ ((ChairBlocks.recordOf (⟨23, 63, .beacon BindingCode.proposed 7 14 zoneB
      55 true 0⟩ : Frame).source (chairWith (serving (sendingWork senderRun)))).isSome = true ∨ (chairWith
      (serving (sendingWork senderRun))).fleet.length < 32) ∧ ChairBlocks.seatOf (⟨23, 63, .beacon
      BindingCode.proposed 7 14 zoneB 55 true 0⟩ : Frame).source 3 (chairWith (serving (sendingWork senderRun)))
      ∧ (∀ (a : ActiveTransfer), (chairWith (serving (sendingWork senderRun))).engine.active = some a → a.seat =
      3 → (chairWith (serving (sendingWork senderRun))).engine.pendingReceive = none) ∧ ((chairWith (serving
      (sendingWork senderRun))).seats.get 3).state = SeatState.sending ∧ ((chairWith (serving (sendingWork
      senderRun))).seats.get 3).admitRepeat = none ∧ ((chairWith (serving (sendingWork senderRun))).seats.get
      3).lastAdmitted.zone = zoneB ∧ (BindingCode.proposed = BindingCode.proposed ∨ BindingCode.proposed =
      BindingCode.transfer)) ∧
    (State.chairHears (chairReceiving receiverAt33) ⟨23, 63, .beacon BindingCode.bound 7 14 zoneB 55 true 77⟩
      laterBeacon (chairHeard (chairReceiving receiverAt33) 23 63 (.beacon BindingCode.bound 7 14 zoneB 55 true
      77)) ∧ (⟨23, 63, .beacon BindingCode.bound 7 14 zoneB 55 true 77⟩ : Frame).body = Body.beacon
      BindingCode.bound 7 14 zoneB 55 true 77 ∧ (chairReceiving receiverAt33).engine.unpressed ∧
      ((ChairBlocks.recordOf (⟨23, 63, .beacon BindingCode.bound 7 14 zoneB 55 true 77⟩ : Frame).source
      (chairReceiving receiverAt33)).isSome = true ∨ (chairReceiving receiverAt33).fleet.length < 32) ∧
      ChairBlocks.seatOf (⟨23, 63, .beacon BindingCode.bound 7 14 zoneB 55 true 77⟩ : Frame).source 3
      (chairReceiving receiverAt33) ∧ (∀ (a : ActiveTransfer), (chairReceiving receiverAt33).engine.active =
      some a → a.seat = 3 → (chairReceiving receiverAt33).engine.pendingReceive = none) ∧ ((chairReceiving
      receiverAt33).seats.get 3).state = SeatState.receiving ∧ (¬(BindingCode.bound = BindingCode.transfer ∧
      ((chairReceiving receiverAt33).seats.get 3).transfer = some 77)) ∧ (¬(BindingCode.bound =
      BindingCode.bound ∧ 7 = (chairHeard (chairReceiving receiverAt33) 23 63 (.beacon BindingCode.bound 7 14
      zoneB 55 true 77)).config.station ∧ 14 ≠ ((chairReceiving receiverAt33).seats.get 3).epoch))) ∧
    (State.chairHears (chairReceiving receiverAt33) ⟨23, 63, .beacon BindingCode.transfer 9 14 zoneB 55 true 76⟩
      laterBeacon (chairHeard (chairReceiving receiverAt33) 23 63 (.beacon BindingCode.transfer 9 14 zoneB 55
      true 76)) ∧ (⟨23, 63, .beacon BindingCode.transfer 9 14 zoneB 55 true 76⟩ : Frame).body = Body.beacon
      BindingCode.transfer 9 14 zoneB 55 true 76 ∧ (chairReceiving receiverAt33).engine.unpressed ∧
      ((ChairBlocks.recordOf (⟨23, 63, .beacon BindingCode.transfer 9 14 zoneB 55 true 76⟩ : Frame).source
      (chairReceiving receiverAt33)).isSome = true ∨ (chairReceiving receiverAt33).fleet.length < 32) ∧
      ChairBlocks.seatOf (⟨23, 63, .beacon BindingCode.transfer 9 14 zoneB 55 true 76⟩ : Frame).source 3
      (chairReceiving receiverAt33) ∧ (∀ (a : ActiveTransfer), (chairReceiving receiverAt33).engine.active =
      some a → a.seat = 3 → (chairReceiving receiverAt33).engine.pendingReceive = none) ∧ ((chairReceiving
      receiverAt33).seats.get 3).state = SeatState.receiving ∧ (¬(BindingCode.transfer = BindingCode.transfer ∧
      ((chairReceiving receiverAt33).seats.get 3).transfer = some 76)) ∧ (¬(BindingCode.transfer =
      BindingCode.bound ∧ 9 = (chairHeard (chairReceiving receiverAt33) 23 63 (.beacon BindingCode.transfer 9 14
      zoneB 55 true 76)).config.station ∧ 14 ≠ ((chairReceiving receiverAt33).seats.get 3).epoch))) ∧
    (State.chairHears (chairReceiving receiverAt33) ⟨23, 63, .beacon BindingCode.transfer 9 14 zoneB 55 true 77⟩
      laterBeacon (chairHeard (chairReceiving receiverAt33) 23 63 (.beacon BindingCode.transfer 9 14 zoneB 55
      true 77)) ∧ (⟨23, 63, .beacon BindingCode.transfer 9 14 zoneB 55 true 77⟩ : Frame).body = Body.beacon
      BindingCode.transfer 9 14 zoneB 55 true 77 ∧ (chairReceiving receiverAt33).engine.unpressed ∧
      ((ChairBlocks.recordOf (⟨23, 63, .beacon BindingCode.transfer 9 14 zoneB 55 true 77⟩ : Frame).source
      (chairReceiving receiverAt33)).isSome = true ∨ (chairReceiving receiverAt33).fleet.length < 32) ∧
      ChairBlocks.seatOf (⟨23, 63, .beacon BindingCode.transfer 9 14 zoneB 55 true 77⟩ : Frame).source 3
      (chairReceiving receiverAt33) ∧ (∀ (a : ActiveTransfer), (chairReceiving receiverAt33).engine.active =
      some a → a.seat = 3 → (chairReceiving receiverAt33).engine.pendingReceive = none) ∧ ((chairReceiving
      receiverAt33).seats.get 3).state = SeatState.receiving ∧ ((chairReceiving receiverAt33).seats.get
      3).admitRepeat = none ∧ BindingCode.transfer = BindingCode.transfer ∧ ((chairReceiving
      receiverAt33).seats.get 3).transfer = some 77) ∧
    (State.chairHears (chairReceiving receiverAt33) ⟨23, 63, .beacon BindingCode.bound 7 15 zoneB 55 true 77⟩
      laterBeacon (chairHeard (chairReceiving receiverAt33) 23 63 (.beacon BindingCode.bound 7 15 zoneB 55 true
      77)) ∧ (⟨23, 63, .beacon BindingCode.bound 7 15 zoneB 55 true 77⟩ : Frame).body = Body.beacon
      BindingCode.bound 7 15 zoneB 55 true 77 ∧ (chairReceiving receiverAt33).engine.unpressed ∧
      ((ChairBlocks.recordOf (⟨23, 63, .beacon BindingCode.bound 7 15 zoneB 55 true 77⟩ : Frame).source
      (chairReceiving receiverAt33)).isSome = true ∨ (chairReceiving receiverAt33).fleet.length < 32) ∧
      ChairBlocks.seatOf (⟨23, 63, .beacon BindingCode.bound 7 15 zoneB 55 true 77⟩ : Frame).source 3
      (chairReceiving receiverAt33) ∧ (∀ (a : ActiveTransfer), (chairReceiving receiverAt33).engine.active =
      some a → a.seat = 3 → (chairReceiving receiverAt33).engine.pendingReceive = none) ∧ ((chairReceiving
      receiverAt33).seats.get 3).state = SeatState.receiving ∧ ((chairReceiving receiverAt33).seats.get
      3).admitRepeat = none ∧ BindingCode.bound = BindingCode.bound ∧ 7 = (chairHeard (chairReceiving
      receiverAt33) 23 63 (.beacon BindingCode.bound 7 15 zoneB 55 true 77)).config.station ∧ 15 ≠
      ((chairReceiving receiverAt33).seats.get 3).epoch ∧ ((chairReceiving receiverAt33).seats.get
      3).lastAdmitted.zone = zoneB) ∧
    (State.chairHears chairCrowded ⟨60, 63, .beacon BindingCode.orphaned 9 3 zoneN 55 true 4⟩ laterBeacon
      (chairHeard chairCrowded 60 63 (.beacon BindingCode.orphaned 9 3 zoneN 55 true 4)) ∧ (⟨60, 63, .beacon
      BindingCode.orphaned 9 3 zoneN 55 true 4⟩ : Frame).body = Body.beacon BindingCode.orphaned 9 3 zoneN 55
      true 4 ∧ chairCrowded.engine.unpressed ∧ ChairBlocks.unnamed (⟨60, 63, .beacon BindingCode.orphaned 9 3
      zoneN 55 true 4⟩ : Frame).source chairCrowded ∧ ChairBlocks.recordOf (⟨60, 63, .beacon
      BindingCode.orphaned 9 3 zoneN 55 true 4⟩ : Frame).source chairCrowded = none ∧ 32 ≤
      chairCrowded.fleet.length ∧ chairCrowded.fleet = [record21] ++ record24 :: otherRecords ∧ (∀ o ∈
      [record21], ∃ i, Seat.names o.machine (chairCrowded.seats.get i) = true) ∧ ChairBlocks.unnamed
      record24.machine chairCrowded) :=
  ⟨⟨⟨rfl, rfl, rfl⟩, rfl, (by intro a r h; cases h), by decide, (by unfold ChairBlocks.unnamed; decide)⟩, ⟨⟨rfl,
    rfl, rfl⟩, rfl, (by intro a r h; cases h), by decide, (by unfold ChairBlocks.unnamed; decide)⟩, ⟨⟨rfl, rfl,
    rfl⟩, rfl, (by intro a r h; cases h), by decide, (by unfold ChairBlocks.unnamed; decide)⟩, ⟨⟨rfl, rfl, rfl⟩,
    rfl, (by intro a r h; cases h), by decide, ⟨rfl, by decide⟩, by decide, rfl, rfl, rfl, rfl⟩, ⟨⟨rfl, rfl,
    rfl⟩, rfl, (by intro a r h; cases h), by decide, ⟨rfl, by decide⟩, by decide, by decide, by decide⟩, ⟨⟨rfl,
    rfl, rfl⟩, rfl, (by intro a r h; cases h), by decide, ⟨rfl, by decide⟩, by decide, by decide, rfl, rfl⟩,
    ⟨⟨rfl, rfl, rfl⟩, rfl, (by intro a r h; cases h), by decide, ⟨rfl, by decide⟩, by decide, by decide,
    by decide⟩, ⟨⟨rfl, rfl, rfl⟩, rfl, (by intro a r h; cases h), by decide, ⟨rfl, by decide⟩, by decide,
    by decide, by decide⟩, ⟨⟨rfl, rfl, rfl⟩, rfl, (by intro a r h; cases h), by decide, ⟨rfl, by decide⟩,
    by decide, rfl, by decide⟩, ⟨⟨rfl, rfl, rfl⟩, rfl, (by intro a r h; cases h), by decide, ⟨rfl, by decide⟩,
    by decide, rfl, by decide⟩, ⟨⟨rfl, rfl, rfl⟩, rfl, (by intro a r h; cases h), by decide, ⟨rfl, by decide⟩,
    by decide, rfl, rfl, by decide, rfl, rfl, rfl, rfl⟩, ⟨⟨rfl, rfl, rfl⟩, rfl, (by intro a r h; cases h),
    by decide, ⟨rfl, by decide⟩, by decide, rfl, rfl, by decide, by decide, rfl, by decide⟩, ⟨⟨rfl, rfl, rfl⟩,
    rfl, (by intro a r h; cases h), by decide, ⟨rfl, by decide⟩, by decide, rfl, rfl, by decide, by decide, rfl,
    by decide⟩, ⟨⟨rfl, rfl, rfl⟩, rfl, (by intro a r h; cases h), by decide, ⟨rfl, by decide⟩, by decide, rfl,
    rfl, by decide, by decide, rfl, rfl⟩, ⟨⟨rfl, rfl, rfl⟩, rfl, (by intro a r h; cases h), by decide, ⟨rfl,
    by decide⟩, by decide, rfl, rfl, by decide, by decide, rfl, rfl⟩, ⟨⟨rfl, rfl, rfl⟩, rfl,
    (by intro a r h; cases h), by decide, ⟨rfl, by decide⟩, by decide, rfl, rfl, by decide, by decide, rfl,
    by decide⟩, ⟨⟨rfl, rfl, rfl⟩, rfl, (by intro a r h; cases h), by decide, ⟨rfl, by decide⟩, by decide, rfl,
    rfl, by decide, by decide, by decide, by decide⟩, ⟨⟨rfl, rfl, rfl⟩, rfl, (by intro a r h; cases h),
    by decide, ⟨rfl, by decide⟩, by decide, rfl, rfl, by decide, by decide, by decide, by decide⟩, ⟨⟨rfl, rfl,
    rfl⟩, rfl, (by intro a r h; cases h; intro h; cases h), by decide, ⟨rfl, by decide⟩, by decide, rfl,
    by decide⟩, ⟨⟨rfl, rfl, rfl⟩, rfl, (by intro a r h; cases h; intro h; cases h), by decide, ⟨rfl, by decide⟩,
    by decide, rfl, by decide⟩, ⟨⟨rfl, rfl, rfl⟩, rfl, (by intro a r h; cases h; intro h; cases h), by decide,
    ⟨rfl, by decide⟩, by decide, rfl, rfl, by decide, rfl, rfl⟩, ⟨⟨rfl, rfl, rfl⟩, rfl,
    (by intro a r h; cases h; intro h; cases h), by decide, ⟨rfl, by decide⟩, by decide, rfl, rfl, rfl, rfl,
    rfl, rfl⟩, ⟨⟨rfl, rfl, rfl⟩, rfl, (by intro a r h; cases h; intro h; cases h), by decide, ⟨rfl, by decide⟩,
    by decide, rfl, rfl, rfl, by decide⟩, ⟨⟨rfl, rfl, rfl⟩, rfl,
    (by intro a r h; cases h; intro h; cases h; rfl), by decide, ⟨rfl, by decide⟩, by decide, rfl, by decide,
    by decide⟩, ⟨⟨rfl, rfl, rfl⟩, rfl, (by intro a r h; cases h; intro h; cases h; rfl), by decide, ⟨rfl,
    by decide⟩, by decide, rfl, by decide, by decide⟩, ⟨⟨rfl, rfl, rfl⟩, rfl,
    (by intro a r h; cases h; intro h; cases h; rfl), by decide, ⟨rfl, by decide⟩, by decide, rfl, rfl, rfl,
    rfl⟩, ⟨⟨rfl, rfl, rfl⟩, rfl, (by intro a r h; cases h; intro h; cases h; rfl), by decide, ⟨rfl, by decide⟩,
    by decide, rfl, rfl, rfl, rfl, by decide, rfl⟩, ⟨⟨rfl, rfl, rfl⟩, rfl, (by intro a r h; cases h),
    (by unfold ChairBlocks.unnamed; decide), rfl, by decide, rfl, by decide,
    (by unfold ChairBlocks.unnamed; decide)⟩⟩

theorem witness_GrantAndProposeAtTheSeat :
    (State.chairHears (chairWith engineIdle) ⟨24, 7, .grant 44 zoneA⟩ laterBeacon (chairHeard (chairWith
      engineIdle) 24 7 (.grant 44 zoneA)) ∧ (chairWith engineIdle).engine.unpressed ∧ (⟨24, 7, .grant 44 zoneA⟩
      : Frame).body = Body.grant 44 zoneA ∧ ChairBlocks.unnamed (⟨24, 7, .grant 44 zoneA⟩ : Frame).source
      (chairWith engineIdle)) ∧
    (State.chairHears (chairWith engineIdle) ⟨22, 7, .grant 44 zoneA⟩ laterBeacon (chairHeard (chairWith
      engineIdle) 22 7 (.grant 44 zoneA)) ∧ (chairWith engineIdle).engine.unpressed ∧ ChairBlocks.seatOf (⟨22,
      7, .grant 44 zoneA⟩ : Frame).source 2 (chairWith engineIdle) ∧ (⟨22, 7, .grant 44 zoneA⟩ : Frame).body =
      Body.grant 44 zoneA ∧ (((chairWith engineIdle).seats.get 2).state = SeatState.asking ∨ ((chairWith
      engineIdle).seats.get 2).state = SeatState.waiting ∨ ((chairWith engineIdle).seats.get 2).state =
      SeatState.seizing)) ∧
    (State.chairHears (chairWith engineIdle) ⟨22, 9, .propose 7 44⟩ laterBeacon (chairHeard (chairWith
      engineIdle) 22 9 (.propose 7 44)) ∧ (chairWith engineIdle).engine.unpressed ∧ ChairBlocks.seatOf (⟨22, 9,
      .propose 7 44⟩ : Frame).source 2 (chairWith engineIdle) ∧ (⟨22, 9, .propose 7 44⟩ : Frame).body =
      Body.propose (chairHeard (chairWith engineIdle) 22 9 (.propose 7 44)).config.station 44 ∧ (⟨22, 9,
      .propose 7 44⟩ : Frame).target ≠ (chairHeard (chairWith engineIdle) 22 9 (.propose 7 44)).config.station ∧
      ((chairWith engineIdle).seats.get 2).state = SeatState.asking) ∧
    (State.chairHears chairNoProposal ⟨21, 7, .propose 8 300⟩ laterBeacon (chairHeard chairNoProposal 21 7
      (.propose 8 300)) ∧ chairNoProposal.engine.unpressed ∧ ChairBlocks.seatOf (⟨21, 7, .propose 8 300⟩ :
      Frame).source 1 chairNoProposal ∧ (⟨21, 7, .propose 8 300⟩ : Frame).body = Body.propose 8 300 ∧ 8 ≠
      (chairHeard chairNoProposal 21 7 (.propose 8 300)).config.station ∧ (⟨21, 7, .propose 8 300⟩ :
      Frame).target = (chairHeard chairNoProposal 21 7 (.propose 8 300)).config.station ∧
      (chairNoProposal.seats.get 1).state = SeatState.holding ∧ (chairNoProposal.seats.get 1).epoch = 300 ∧
      (chairNoProposal.seats.get 1).proposal = none) :=
  ⟨⟨⟨rfl, rfl, rfl⟩, (by intro a r h; cases h), rfl, (by unfold ChairBlocks.unnamed; decide)⟩, ⟨⟨rfl, rfl, rfl⟩,
    (by intro a r h; cases h), ⟨rfl, by decide⟩, rfl, by decide⟩, ⟨⟨rfl, rfl, rfl⟩, (by intro a r h; cases h),
    ⟨rfl, by decide⟩, rfl, by decide, rfl⟩, ⟨⟨rfl, rfl, rfl⟩, (by intro a r h; cases h), ⟨rfl, by decide⟩, rfl,
    by decide, rfl, rfl, rfl, rfl⟩⟩

theorem witness_SeatsFreed :
    (State.chairHears (chairWith engineIdle) ⟨22, 7, .refuse Reason.declined⟩ laterBeacon (chairHeard (chairWith
      engineIdle) 22 7 (.refuse Reason.declined)) ∧ (⟨22, 7, .refuse Reason.declined⟩ : Frame).body =
      Body.refuse Reason.declined ∧ (chairWith engineIdle).engine.unpressed ∧ ChairBlocks.seatOf (⟨22, 7,
      .refuse Reason.declined⟩ : Frame).source 2 (chairWith engineIdle) ∧ (((chairWith engineIdle).seats.get
      2).state = SeatState.asking ∨ ((chairWith engineIdle).seats.get 2).state = SeatState.waiting ∨ ((chairWith
      engineIdle).seats.get 2).state = SeatState.seizing) ∧ (chairWith engineIdle).engine.locks 2 = false) ∧
    ((chairHeard (chairWith engineIdle) 9 7 .halt).blocks = Blocks.chair (chairWith engineIdle) ∧ ((chairWith
      engineIdle).seats.get 2).answerWait = some 9000 ∧ (chairWith engineIdle).engine.locks 2 = false) ∧
    ((chairHeard (chairWith engineIdle) 9 7 .halt).blocks = Blocks.chair (chairWith engineIdle) ∧ ((chairWith
      engineIdle).seats.get 3).handoverWait = some 20000 ∧ (chairWith engineIdle).engine.locks 3 = false) ∧
    ((chairHeard (chairWith (serving (receivingWork receiverRun)) seatReceiving) 9 7 .halt).blocks =
      Blocks.chair (chairWith (serving (receivingWork receiverRun)) seatReceiving) ∧ ((chairWith (serving
      (receivingWork receiverRun)) seatReceiving).seats.get 3).handoverWait = some 20000 ∧ (chairWith (serving
      (receivingWork receiverRun)) seatReceiving).engine.active = some (receivingWork receiverRun) ∧
      (receivingWork receiverRun).seat = 3 ∧ (chairWith (serving (receivingWork receiverRun))
      seatReceiving).engine.pendingReceive = none) ∧
    ((chairHeard (chairWith (serving (sendingWork senderRun))) 9 7 .halt).blocks = Blocks.chair (chairWith
      (serving (sendingWork senderRun))) ∧ ((chairWith (serving (sendingWork senderRun))).seats.get
      3).handoverWait = some 20000 ∧ (chairWith (serving (sendingWork senderRun))).engine.active = some
      (sendingWork senderRun) ∧ (sendingWork senderRun).seat = 3 ∧ (chairWith (serving (sendingWork
      senderRun))).engine.pendingReceive = none) :=
  ⟨⟨⟨rfl, rfl, rfl⟩, rfl, (by intro a r h; cases h), ⟨rfl, by decide⟩, by decide, rfl⟩, ⟨rfl, rfl, rfl⟩, ⟨rfl,
    rfl, rfl⟩, ⟨rfl, rfl, rfl, rfl, rfl⟩, ⟨rfl, rfl, rfl, rfl, rfl⟩⟩

theorem witness_ChairTimers :
    ((chairHeard (chairWith engineIdle) 9 7 .halt).blocks = Blocks.chair (chairWith engineIdle) ∧ (chairWith
      engineIdle).driveTimer = some 5050) ∧
    ((chairHeard (chairWith engineIdle) 9 7 .halt).blocks = Blocks.chair (chairWith engineIdle) ∧ (∃ t,
      seatHolding.setpointAt = some t ∧ 5300 - t ≤ 300)) ∧
    ((chairHeard (chairWith engineIdle) 9 7 .halt).blocks = Blocks.chair (chairWith engineIdle) ∧
      (seatHolding.setpointAt = none ∨ ∃ t, seatHolding.setpointAt = some t ∧ 300 < 5301 - t)) ∧
    ((chairHeard (chairWith engineIdle) 9 7 .halt).blocks = Blocks.chair (chairWith engineIdle) ∧
      (seatAsking.setpointAt = none ∨ ∃ t, seatAsking.setpointAt = some t ∧ 300 < 5301 - t)) ∧
    ((chairHeard (chairWith engineIdle) 9 7 .halt).blocks = Blocks.chair (chairWith engineIdle) ∧ ((chairWith
      engineIdle).seats.get 2).answerWait = some 9000 ∧ ((chairWith engineIdle).seats.get 2).state =
      SeatState.asking ∧ ((chairWith engineIdle).seats.get 2).askRepeated = false) ∧
    ((chairHeard (chairWith engineIdle) 9 7 .halt).blocks = Blocks.chair (chairWith engineIdle) ∧ ((chairWith
      engineIdle).seats.get 1).proposal = some { asker := 50, wait := some 5900 }) ∧
    ((chairHeard (chairWith engineIdle) 9 7 .halt).blocks = Blocks.chair (chairWith engineIdle) ∧
      ChairBlocks.recordOf 24 (chairWith engineIdle) = some record24 ∧ ChairBlocks.unnamed 24 (chairWith
      engineIdle)) ∧
    ((chairHeard (chairWith engineIdle) 9 7 .halt).blocks = Blocks.chair (chairWith engineIdle) ∧
      ChairBlocks.recordOf 21 (chairWith engineIdle) = some record21 ∧ (∃ i, ChairBlocks.seatOf 21 i (chairWith
      engineIdle))) :=
  ⟨⟨rfl, rfl⟩, ⟨rfl, by decide⟩, ⟨rfl, by decide⟩, ⟨rfl, by decide⟩, ⟨rfl, rfl, rfl, rfl⟩, ⟨rfl, rfl⟩, ⟨rfl,
    rfl, (by unfold ChairBlocks.unnamed; decide)⟩, ⟨rfl, rfl, ⟨1, ⟨rfl, by decide⟩⟩⟩⟩

theorem witness_OpenStartsTheEngine :
    (State.chairHears (chairWith engineIdle) ⟨23, 63, .openTransfer 78 7 51 40⟩ laterBeacon (chairHeard
      (chairWith engineIdle) 23 63 (.openTransfer 78 7 51 40)) ∧ (⟨23, 63, .openTransfer 78 7 51 40⟩ :
      Frame).body = Body.openTransfer 78 7 51 40 ∧ 7 = (chairHeard (chairWith engineIdle) 23 63 (.openTransfer
      78 7 51 40)).config.station ∧ (chairWith engineIdle).engine.active = none ∧ ChairBlocks.seatOf (⟨23, 63,
      .openTransfer 78 7 51 40⟩ : Frame).source 3 (chairWith engineIdle) ∧ ((chairWith engineIdle).seats.get
      3).state = SeatState.sending) ∧
    (State.chairHears (chairWith engineIdle) ⟨22, 63, .openTransfer 78 52 7 40⟩ laterBeacon (chairHeard
      (chairWith engineIdle) 22 63 (.openTransfer 78 52 7 40)) ∧ (⟨22, 63, .openTransfer 78 52 7 40⟩ :
      Frame).body = Body.openTransfer 78 52 7 40 ∧ 52 ≠ (chairHeard (chairWith engineIdle) 22 63 (.openTransfer
      78 52 7 40)).config.station ∧ 7 = (chairHeard (chairWith engineIdle) 22 63 (.openTransfer 78 52 7
      40)).config.station ∧ (chairWith engineIdle).engine.pendingReceive = none ∧ ChairBlocks.seatOf (⟨22, 63,
      .openTransfer 78 52 7 40⟩ : Frame).source 2 (chairWith engineIdle) ∧ (((chairWith engineIdle).seats.get
      2).state = SeatState.asking ∨ ((chairWith engineIdle).seats.get 2).state = SeatState.waiting) ∧ (chairWith
      engineIdle).engine.active = none) ∧
    (State.chairHears (chairWith (serving (sendingWork senderRun))) ⟨22, 63, .openTransfer 78 52 7 40⟩
      laterBeacon (chairHeard (chairWith (serving (sendingWork senderRun))) 22 63 (.openTransfer 78 52 7 40)) ∧
      (⟨22, 63, .openTransfer 78 52 7 40⟩ : Frame).body = Body.openTransfer 78 52 7 40 ∧ 52 ≠ (chairHeard
      (chairWith (serving (sendingWork senderRun))) 22 63 (.openTransfer 78 52 7 40)).config.station ∧ 7 =
      (chairHeard (chairWith (serving (sendingWork senderRun))) 22 63 (.openTransfer 78 52 7 40)).config.station
      ∧ (chairWith (serving (sendingWork senderRun))).engine.pendingReceive = none ∧ ChairBlocks.seatOf (⟨22,
      63, .openTransfer 78 52 7 40⟩ : Frame).source 2 (chairWith (serving (sendingWork senderRun))) ∧
      (((chairWith (serving (sendingWork senderRun))).seats.get 2).state = SeatState.asking ∨ ((chairWith
      (serving (sendingWork senderRun))).seats.get 2).state = SeatState.waiting) ∧ (chairWith (serving
      (sendingWork senderRun))).engine.active = some (sendingWork senderRun) ∧ (¬((sendingWork
      senderRun).machine = (⟨22, 63, .openTransfer 78 52 7 40⟩ : Frame).source ∧ (sendingWork senderRun).number
      = 78)) ∧ (chairWith (serving (sendingWork senderRun))).engine.unpressed) ∧
    (State.chairHears (chairWith engineIdle) ⟨24, 63, .openTransfer 78 52 7 40⟩ laterBeacon (chairHeard
      (chairWith engineIdle) 24 63 (.openTransfer 78 52 7 40)) ∧ (⟨24, 63, .openTransfer 78 52 7 40⟩ :
      Frame).body = Body.openTransfer 78 52 7 40 ∧ 52 ≠ (chairHeard (chairWith engineIdle) 24 63 (.openTransfer
      78 52 7 40)).config.station ∧ 7 = (chairHeard (chairWith engineIdle) 24 63 (.openTransfer 78 52 7
      40)).config.station ∧ (chairWith engineIdle).engine.active = none ∧ (chairWith
      engineIdle).engine.pendingReceive = none ∧ ChairBlocks.unnamed (⟨24, 63, .openTransfer 78 52 7 40⟩ :
      Frame).source (chairWith engineIdle)) :=
  ⟨⟨⟨rfl, rfl, rfl⟩, rfl, rfl, rfl, ⟨rfl, by decide⟩, rfl⟩, ⟨⟨rfl, rfl, rfl⟩, rfl, by decide, rfl, rfl, ⟨rfl,
    by decide⟩, by decide, rfl⟩, ⟨⟨rfl, rfl, rfl⟩, rfl, by decide, rfl, rfl, ⟨rfl, by decide⟩, by decide, rfl,
    by decide, (by intro a r h; cases h; intro h; cases h)⟩, ⟨⟨rfl, rfl, rfl⟩, rfl, by decide, rfl, rfl, rfl,
    (by unfold ChairBlocks.unnamed; decide)⟩⟩

theorem witness_ReceiverTakesTheContext :
    (State.chairHears (chairWith (serving (receivingWork receiverRun)) seatReceiving) ⟨51, 7, .segment 77 255 16
      [1#16, 2#16, 3#16]⟩ laterBeacon (chairHeard (chairWith (serving (receivingWork receiverRun))
      seatReceiving) 51 7 (.segment 77 255 16 [1#16, 2#16, 3#16])) ∧ (chairWith (serving (receivingWork
      receiverRun)) seatReceiving).engine.active = some (receivingWork receiverRun) ∧ (receivingWork
      receiverRun).side = Side.receiver receiverRun ∧ receiverRun.state = ReceiveState.run ∧
      receiverRun.pressure = false ∧ (⟨51, 7, .segment 77 255 16 [1#16, 2#16, 3#16]⟩ : Frame).source =
      (receivingWork receiverRun).peer ∧ (⟨51, 7, .segment 77 255 16 [1#16, 2#16, 3#16]⟩ : Frame).body =
      Body.segment (receivingWork receiverRun).number (receivingWork receiverRun).burst 16 [1#16, 2#16, 3#16] ∧
      16 = receiverRun.held ∧ 16 < (receivingWork receiverRun).length) ∧
    (State.chairHears (chairWith (serving (receivingWork receiverAt32)) seatReceiving) ⟨51, 7, .segment 77 255
      32 [1#16, 2#16, 3#16]⟩ laterBeacon (chairHeard (chairWith (serving (receivingWork receiverAt32))
      seatReceiving) 51 7 (.segment 77 255 32 [1#16, 2#16, 3#16])) ∧ (chairWith (serving (receivingWork
      receiverAt32)) seatReceiving).engine.active = some (receivingWork receiverAt32) ∧ (receivingWork
      receiverAt32).side = Side.receiver receiverAt32 ∧ receiverAt32.state = ReceiveState.run ∧
      receiverAt32.pressure = false ∧ (⟨51, 7, .segment 77 255 32 [1#16, 2#16, 3#16]⟩ : Frame).source =
      (receivingWork receiverAt32).peer ∧ (⟨51, 7, .segment 77 255 32 [1#16, 2#16, 3#16]⟩ : Frame).body =
      Body.segment (receivingWork receiverAt32).number (receivingWork receiverAt32).burst 32 [1#16, 2#16, 3#16]
      ∧ 32 = receiverAt32.held ∧ 32 < (receivingWork receiverAt32).length) ∧
    (State.chairHears (chairWith (serving (receivingWork receiverAt33)) seatReceiving) ⟨51, 7, .sum 77 33 4#16⟩
      laterBeacon (chairHeard (chairWith (serving (receivingWork receiverAt33)) seatReceiving) 51 7 (.sum 77 33
      4#16)) ∧ (chairWith (serving (receivingWork receiverAt33)) seatReceiving).engine.active = some
      (receivingWork receiverAt33) ∧ (receivingWork receiverAt33).side = Side.receiver receiverAt33 ∧
      receiverAt33.state = ReceiveState.run ∧ receiverAt33.pressure = false ∧ (⟨51, 7, .sum 77 33 4#16⟩ :
      Frame).source = (receivingWork receiverAt33).peer ∧ (⟨51, 7, .sum 77 33 4#16⟩ : Frame).body = Body.sum
      (receivingWork receiverAt33).number 33 4#16 ∧ (receivingWork receiverAt33).length ≤ receiverAt33.held) ∧
    (State.chairHears (chairWith (serving (receivingWork receiverRun)) seatReceiving) ⟨51, 7, .segment 77 255 24
      [1#16, 2#16, 3#16]⟩ laterBeacon (chairHeard (chairWith (serving (receivingWork receiverRun))
      seatReceiving) 51 7 (.segment 77 255 24 [1#16, 2#16, 3#16])) ∧ (chairWith (serving (receivingWork
      receiverRun)) seatReceiving).engine.active = some (receivingWork receiverRun) ∧ (receivingWork
      receiverRun).side = Side.receiver receiverRun ∧ receiverRun.state = ReceiveState.run ∧
      receiverRun.pressure = false ∧ ((Instr.receiverSegment = Instr.receiverSegment ∧ (⟨51, 7, .segment 77 255
      24 [1#16, 2#16, 3#16]⟩ : Frame).source = (receivingWork receiverRun).peer ∧ 16 = receiverRun.held ∧ ∃ i
      ws, (⟨51, 7, .segment 77 255 24 [1#16, 2#16, 3#16]⟩ : Frame).body = Body.segment (receivingWork
      receiverRun).number (receivingWork receiverRun).burst i ws ∧ receiverRun.held < i) ∨
      (Instr.receiverSegment = Instr.receiverSum ∧ (⟨51, 7, .segment 77 255 24 [1#16, 2#16, 3#16]⟩ :
      Frame).source = (receivingWork receiverRun).peer ∧ 16 = receiverRun.held ∧ receiverRun.held <
      (receivingWork receiverRun).length ∧ receiverRun.burstSeen = true ∧ ∃ l w, (⟨51, 7, .segment 77 255 24
      [1#16, 2#16, 3#16]⟩ : Frame).body = Body.sum (receivingWork receiverRun).number l w) ∨
      Instr.receiverSegment = Instr.lag ∧ (⟨51, 7, .segment 77 255 24 [1#16, 2#16, 3#16]⟩ : Frame).source =
      (receivingWork receiverRun).machine ∧ ∃ w, (⟨51, 7, .segment 77 255 24 [1#16, 2#16, 3#16]⟩ : Frame).body =
      Body.lag (receivingWork receiverRun).number w ∧ w < (receivingWork receiverRun).length ∧ 16 = min w
      receiverRun.held)) ∧
    (State.chairHears (chairWith (serving (receivingWork receiverRun)) seatReceiving) ⟨51, 7, .sum 77 33 4#16⟩
      laterBeacon (chairHeard (chairWith (serving (receivingWork receiverRun)) seatReceiving) 51 7 (.sum 77 33
      4#16)) ∧ (chairWith (serving (receivingWork receiverRun)) seatReceiving).engine.active = some
      (receivingWork receiverRun) ∧ (receivingWork receiverRun).side = Side.receiver receiverRun ∧
      receiverRun.state = ReceiveState.run ∧ receiverRun.pressure = false ∧ ((Instr.receiverSum =
      Instr.receiverSegment ∧ (⟨51, 7, .sum 77 33 4#16⟩ : Frame).source = (receivingWork receiverRun).peer ∧ 16
      = receiverRun.held ∧ ∃ i ws, (⟨51, 7, .sum 77 33 4#16⟩ : Frame).body = Body.segment (receivingWork
      receiverRun).number (receivingWork receiverRun).burst i ws ∧ receiverRun.held < i) ∨ (Instr.receiverSum =
      Instr.receiverSum ∧ (⟨51, 7, .sum 77 33 4#16⟩ : Frame).source = (receivingWork receiverRun).peer ∧ 16 =
      receiverRun.held ∧ receiverRun.held < (receivingWork receiverRun).length ∧ receiverRun.burstSeen = true ∧
      ∃ l w, (⟨51, 7, .sum 77 33 4#16⟩ : Frame).body = Body.sum (receivingWork receiverRun).number l w) ∨
      Instr.receiverSum = Instr.lag ∧ (⟨51, 7, .sum 77 33 4#16⟩ : Frame).source = (receivingWork
      receiverRun).machine ∧ ∃ w, (⟨51, 7, .sum 77 33 4#16⟩ : Frame).body = Body.lag (receivingWork
      receiverRun).number w ∧ w < (receivingWork receiverRun).length ∧ 16 = min w receiverRun.held)) ∧
    (State.chairHears (chairWith (serving (receivingWork receiverRun)) seatReceiving) ⟨23, 7, .lag 77 12⟩
      laterBeacon (chairHeard (chairWith (serving (receivingWork receiverRun)) seatReceiving) 23 7 (.lag 77 12))
      ∧ (chairWith (serving (receivingWork receiverRun)) seatReceiving).engine.active = some (receivingWork
      receiverRun) ∧ (receivingWork receiverRun).side = Side.receiver receiverRun ∧ receiverRun.state =
      ReceiveState.run ∧ receiverRun.pressure = false ∧ ((Instr.lag = Instr.receiverSegment ∧ (⟨23, 7, .lag 77
      12⟩ : Frame).source = (receivingWork receiverRun).peer ∧ 12 = receiverRun.held ∧ ∃ i ws, (⟨23, 7, .lag 77
      12⟩ : Frame).body = Body.segment (receivingWork receiverRun).number (receivingWork receiverRun).burst i ws
      ∧ receiverRun.held < i) ∨ (Instr.lag = Instr.receiverSum ∧ (⟨23, 7, .lag 77 12⟩ : Frame).source =
      (receivingWork receiverRun).peer ∧ 12 = receiverRun.held ∧ receiverRun.held < (receivingWork
      receiverRun).length ∧ receiverRun.burstSeen = true ∧ ∃ l w, (⟨23, 7, .lag 77 12⟩ : Frame).body = Body.sum
      (receivingWork receiverRun).number l w) ∨ Instr.lag = Instr.lag ∧ (⟨23, 7, .lag 77 12⟩ : Frame).source =
      (receivingWork receiverRun).machine ∧ ∃ w, (⟨23, 7, .lag 77 12⟩ : Frame).body = Body.lag (receivingWork
      receiverRun).number w ∧ w < (receivingWork receiverRun).length ∧ 12 = min w receiverRun.held)) ∧
    (State.chairHears (chairReceiving receiverRun) ⟨51, 7, .segment 78 255 16 [1#16, 2#16, 3#16]⟩ laterBeacon
      (chairHeard (chairReceiving receiverRun) 51 7 (.segment 78 255 16 [1#16, 2#16, 3#16])) ∧ (chairReceiving
      receiverRun).engine.active = some (receivingWork receiverRun) ∧ (receivingWork receiverRun).side =
      Side.receiver receiverRun ∧ (receiverRun.pressure = true → 2 < laterBeacon.length) ∧ (⟨51, 7, .segment 78
      255 16 [1#16, 2#16, 3#16]⟩ : Frame).body = Body.segment 78 255 16 [1#16, 2#16, 3#16] ∧ (78 ≠
      (receivingWork receiverRun).number ∨ (⟨51, 7, .segment 78 255 16 [1#16, 2#16, 3#16]⟩ : Frame).source ≠
      (receivingWork receiverRun).peer ∨ 255 ≠ (receivingWork receiverRun).burst ∨ receiverRun.state =
      ReceiveState.stopped ∨ receiverRun.state = ReceiveState.check ∨ receiverRun.state = ReceiveState.paused ∧
      receiverRun.allowance = 0)) ∧
    (State.chairHears (chairReceiving receiverRun) ⟨9, 7, .segment 77 255 16 [1#16, 2#16, 3#16]⟩ laterBeacon
      (chairHeard (chairReceiving receiverRun) 9 7 (.segment 77 255 16 [1#16, 2#16, 3#16])) ∧ (chairReceiving
      receiverRun).engine.active = some (receivingWork receiverRun) ∧ (receivingWork receiverRun).side =
      Side.receiver receiverRun ∧ (receiverRun.pressure = true → 2 < laterBeacon.length) ∧ (⟨9, 7, .segment 77
      255 16 [1#16, 2#16, 3#16]⟩ : Frame).body = Body.segment 77 255 16 [1#16, 2#16, 3#16] ∧ (77 ≠
      (receivingWork receiverRun).number ∨ (⟨9, 7, .segment 77 255 16 [1#16, 2#16, 3#16]⟩ : Frame).source ≠
      (receivingWork receiverRun).peer ∨ 255 ≠ (receivingWork receiverRun).burst ∨ receiverRun.state =
      ReceiveState.stopped ∨ receiverRun.state = ReceiveState.check ∨ receiverRun.state = ReceiveState.paused ∧
      receiverRun.allowance = 0)) ∧
    (State.chairHears (chairReceiving receiverRun) ⟨51, 7, .segment 77 254 16 [1#16, 2#16, 3#16]⟩ laterBeacon
      (chairHeard (chairReceiving receiverRun) 51 7 (.segment 77 254 16 [1#16, 2#16, 3#16])) ∧ (chairReceiving
      receiverRun).engine.active = some (receivingWork receiverRun) ∧ (receivingWork receiverRun).side =
      Side.receiver receiverRun ∧ (receiverRun.pressure = true → 2 < laterBeacon.length) ∧ (⟨51, 7, .segment 77
      254 16 [1#16, 2#16, 3#16]⟩ : Frame).body = Body.segment 77 254 16 [1#16, 2#16, 3#16] ∧ (77 ≠
      (receivingWork receiverRun).number ∨ (⟨51, 7, .segment 77 254 16 [1#16, 2#16, 3#16]⟩ : Frame).source ≠
      (receivingWork receiverRun).peer ∨ 254 ≠ (receivingWork receiverRun).burst ∨ receiverRun.state =
      ReceiveState.stopped ∨ receiverRun.state = ReceiveState.check ∨ receiverRun.state = ReceiveState.paused ∧
      receiverRun.allowance = 0)) ∧
    (State.chairHears (chairReceiving receiverStopped) ⟨51, 7, .segment 77 255 16 [1#16, 2#16, 3#16]⟩
      laterBeacon (chairHeard (chairReceiving receiverStopped) 51 7 (.segment 77 255 16 [1#16, 2#16, 3#16])) ∧
      (chairReceiving receiverStopped).engine.active = some (receivingWork receiverStopped) ∧ (receivingWork
      receiverStopped).side = Side.receiver receiverStopped ∧ (receiverStopped.pressure = true → 2 <
      laterBeacon.length) ∧ (⟨51, 7, .segment 77 255 16 [1#16, 2#16, 3#16]⟩ : Frame).body = Body.segment 77 255
      16 [1#16, 2#16, 3#16] ∧ (77 ≠ (receivingWork receiverStopped).number ∨ (⟨51, 7, .segment 77 255 16 [1#16,
      2#16, 3#16]⟩ : Frame).source ≠ (receivingWork receiverStopped).peer ∨ 255 ≠ (receivingWork
      receiverStopped).burst ∨ receiverStopped.state = ReceiveState.stopped ∨ receiverStopped.state =
      ReceiveState.check ∨ receiverStopped.state = ReceiveState.paused ∧ receiverStopped.allowance = 0)) ∧
    (State.chairHears (chairReceiving receiverCheck) ⟨51, 7, .segment 77 255 16 [1#16, 2#16, 3#16]⟩ laterBeacon
      (chairHeard (chairReceiving receiverCheck) 51 7 (.segment 77 255 16 [1#16, 2#16, 3#16])) ∧ (chairReceiving
      receiverCheck).engine.active = some (receivingWork receiverCheck) ∧ (receivingWork receiverCheck).side =
      Side.receiver receiverCheck ∧ (receiverCheck.pressure = true → 2 < laterBeacon.length) ∧ (⟨51, 7, .segment
      77 255 16 [1#16, 2#16, 3#16]⟩ : Frame).body = Body.segment 77 255 16 [1#16, 2#16, 3#16] ∧ (77 ≠
      (receivingWork receiverCheck).number ∨ (⟨51, 7, .segment 77 255 16 [1#16, 2#16, 3#16]⟩ : Frame).source ≠
      (receivingWork receiverCheck).peer ∨ 255 ≠ (receivingWork receiverCheck).burst ∨ receiverCheck.state =
      ReceiveState.stopped ∨ receiverCheck.state = ReceiveState.check ∨ receiverCheck.state =
      ReceiveState.paused ∧ receiverCheck.allowance = 0)) ∧
    (State.chairHears (chairReceiving receiverSpent) ⟨51, 7, .segment 77 255 16 [1#16, 2#16, 3#16]⟩ laterBeacon
      (chairHeard (chairReceiving receiverSpent) 51 7 (.segment 77 255 16 [1#16, 2#16, 3#16])) ∧ (chairReceiving
      receiverSpent).engine.active = some (receivingWork receiverSpent) ∧ (receivingWork receiverSpent).side =
      Side.receiver receiverSpent ∧ (receiverSpent.pressure = true → 2 < laterBeacon.length) ∧ (⟨51, 7, .segment
      77 255 16 [1#16, 2#16, 3#16]⟩ : Frame).body = Body.segment 77 255 16 [1#16, 2#16, 3#16] ∧ (77 ≠
      (receivingWork receiverSpent).number ∨ (⟨51, 7, .segment 77 255 16 [1#16, 2#16, 3#16]⟩ : Frame).source ≠
      (receivingWork receiverSpent).peer ∨ 255 ≠ (receivingWork receiverSpent).burst ∨ receiverSpent.state =
      ReceiveState.stopped ∨ receiverSpent.state = ReceiveState.check ∨ receiverSpent.state =
      ReceiveState.paused ∧ receiverSpent.allowance = 0)) ∧
    (State.chairHears (chairReceiving receiverRun) ⟨51, 7, .segment 77 255 15 [1#16, 2#16, 3#16]⟩ laterBeacon
      (chairHeard (chairReceiving receiverRun) 51 7 (.segment 77 255 15 [1#16, 2#16, 3#16])) ∧ (chairReceiving
      receiverRun).engine.active = some (receivingWork receiverRun) ∧ (receivingWork receiverRun).side =
      Side.receiver receiverRun ∧ (receiverRun.pressure = true → 2 < laterBeacon.length) ∧ (⟨51, 7, .segment 77
      255 15 [1#16, 2#16, 3#16]⟩ : Frame).source = (receivingWork receiverRun).peer ∧ (⟨51, 7, .segment 77 255
      15 [1#16, 2#16, 3#16]⟩ : Frame).body = Body.segment (receivingWork receiverRun).number (receivingWork
      receiverRun).burst 15 [1#16, 2#16, 3#16] ∧ (15 < receiverRun.held ∨ 15 = receiverRun.held ∧ (receivingWork
      receiverRun).length ≤ receiverRun.held) ∧ receiverRun.state = ReceiveState.run) ∧
    (State.chairHears (chairReceiving receiverPausedAt33) ⟨51, 7, .segment 77 255 33 [1#16, 2#16, 3#16]⟩
      laterBeacon (chairHeard (chairReceiving receiverPausedAt33) 51 7 (.segment 77 255 33 [1#16, 2#16, 3#16]))
      ∧ (chairReceiving receiverPausedAt33).engine.active = some (receivingWork receiverPausedAt33) ∧
      (receivingWork receiverPausedAt33).side = Side.receiver receiverPausedAt33 ∧ (receiverPausedAt33.pressure
      = true → 2 < laterBeacon.length) ∧ (⟨51, 7, .segment 77 255 33 [1#16, 2#16, 3#16]⟩ : Frame).source =
      (receivingWork receiverPausedAt33).peer ∧ (⟨51, 7, .segment 77 255 33 [1#16, 2#16, 3#16]⟩ : Frame).body =
      Body.segment (receivingWork receiverPausedAt33).number (receivingWork receiverPausedAt33).burst 33 [1#16,
      2#16, 3#16] ∧ (33 < receiverPausedAt33.held ∨ 33 = receiverPausedAt33.held ∧ (receivingWork
      receiverPausedAt33).length ≤ receiverPausedAt33.held) ∧ receiverPausedAt33.state = ReceiveState.paused ∧
      receiverPausedAt33.allowance ≠ 0) ∧
    (State.chairHears (chairReceiving receiverPaused) ⟨51, 7, .segment 77 255 16 [1#16, 2#16, 3#16]⟩ laterBeacon
      (chairHeard (chairReceiving receiverPaused) 51 7 (.segment 77 255 16 [1#16, 2#16, 3#16])) ∧
      (chairReceiving receiverPaused).engine.active = some (receivingWork receiverPaused) ∧ (receivingWork
      receiverPaused).side = Side.receiver receiverPaused ∧ (receiverPaused.pressure = true → 2 <
      laterBeacon.length) ∧ (⟨51, 7, .segment 77 255 16 [1#16, 2#16, 3#16]⟩ : Frame).source = (receivingWork
      receiverPaused).peer ∧ (⟨51, 7, .segment 77 255 16 [1#16, 2#16, 3#16]⟩ : Frame).body = Body.segment
      (receivingWork receiverPaused).number (receivingWork receiverPaused).burst 16 [1#16, 2#16, 3#16] ∧
      receiverPaused.state = ReceiveState.paused ∧ receiverPaused.allowance ≠ 0 ∧ 16 = receiverPaused.held ∧ 16
      < (receivingWork receiverPaused).length) ∧
    (State.chairHears (chairReceiving receiverPaused) ⟨51, 7, .segment 77 255 17 [1#16, 2#16, 3#16]⟩ laterBeacon
      (chairHeard (chairReceiving receiverPaused) 51 7 (.segment 77 255 17 [1#16, 2#16, 3#16])) ∧
      (chairReceiving receiverPaused).engine.active = some (receivingWork receiverPaused) ∧ (receivingWork
      receiverPaused).side = Side.receiver receiverPaused ∧ (receiverPaused.pressure = true → 2 <
      laterBeacon.length) ∧ (⟨51, 7, .segment 77 255 17 [1#16, 2#16, 3#16]⟩ : Frame).source = (receivingWork
      receiverPaused).peer ∧ (⟨51, 7, .segment 77 255 17 [1#16, 2#16, 3#16]⟩ : Frame).body = Body.segment
      (receivingWork receiverPaused).number (receivingWork receiverPaused).burst 17 [1#16, 2#16, 3#16] ∧
      receiverPaused.state = ReceiveState.paused ∧ receiverPaused.allowance ≠ 0 ∧ receiverPaused.held < 17) ∧
    (State.chairHears (chairReceiving receiverPausedAt33) ⟨51, 7, .sum 77 33 4#16⟩ laterBeacon (chairHeard
      (chairReceiving receiverPausedAt33) 51 7 (.sum 77 33 4#16)) ∧ (chairReceiving
      receiverPausedAt33).engine.active = some (receivingWork receiverPausedAt33) ∧ (receivingWork
      receiverPausedAt33).side = Side.receiver receiverPausedAt33 ∧ (receiverPausedAt33.pressure = true → 2 <
      laterBeacon.length) ∧ (⟨51, 7, .sum 77 33 4#16⟩ : Frame).source = (receivingWork receiverPausedAt33).peer
      ∧ (⟨51, 7, .sum 77 33 4#16⟩ : Frame).body = Body.sum (receivingWork receiverPausedAt33).number 33 4#16 ∧
      (receiverPausedAt33.state = ReceiveState.paused ∧ (receivingWork receiverPausedAt33).length ≤
      receiverPausedAt33.held ∨ receiverPausedAt33.state = ReceiveState.check)) ∧
    (State.chairHears (chairReceiving receiverCheck) ⟨51, 7, .sum 77 33 4#16⟩ laterBeacon (chairHeard
      (chairReceiving receiverCheck) 51 7 (.sum 77 33 4#16)) ∧ (chairReceiving receiverCheck).engine.active =
      some (receivingWork receiverCheck) ∧ (receivingWork receiverCheck).side = Side.receiver receiverCheck ∧
      (receiverCheck.pressure = true → 2 < laterBeacon.length) ∧ (⟨51, 7, .sum 77 33 4#16⟩ : Frame).source =
      (receivingWork receiverCheck).peer ∧ (⟨51, 7, .sum 77 33 4#16⟩ : Frame).body = Body.sum (receivingWork
      receiverCheck).number 33 4#16 ∧ (receiverCheck.state = ReceiveState.paused ∧ (receivingWork
      receiverCheck).length ≤ receiverCheck.held ∨ receiverCheck.state = ReceiveState.check)) ∧
    (State.chairHears (chairReceiving receiverPaused) ⟨51, 7, .sum 77 33 4#16⟩ laterBeacon (chairHeard
      (chairReceiving receiverPaused) 51 7 (.sum 77 33 4#16)) ∧ (chairReceiving receiverPaused).engine.active =
      some (receivingWork receiverPaused) ∧ (receivingWork receiverPaused).side = Side.receiver receiverPaused ∧
      (receiverPaused.pressure = true → 2 < laterBeacon.length) ∧ (⟨51, 7, .sum 77 33 4#16⟩ : Frame).source =
      (receivingWork receiverPaused).peer ∧ (⟨51, 7, .sum 77 33 4#16⟩ : Frame).body = Body.sum (receivingWork
      receiverPaused).number 33 4#16 ∧ receiverPaused.state = ReceiveState.paused ∧ receiverPaused.held <
      (receivingWork receiverPaused).length ∧ receiverPaused.burstSeen = true) ∧
    (State.chairHears (chairReceiving receiverStopped) ⟨51, 7, .sum 77 33 4#16⟩ laterBeacon (chairHeard
      (chairReceiving receiverStopped) 51 7 (.sum 77 33 4#16)) ∧ (chairReceiving receiverStopped).engine.active
      = some (receivingWork receiverStopped) ∧ (receivingWork receiverStopped).side = Side.receiver
      receiverStopped ∧ (receiverStopped.pressure = true → 2 < laterBeacon.length) ∧ (⟨51, 7, .sum 77 33 4#16⟩ :
      Frame).source = (receivingWork receiverStopped).peer ∧ (⟨51, 7, .sum 77 33 4#16⟩ : Frame).body = Body.sum
      (receivingWork receiverStopped).number 33 4#16 ∧ (receiverStopped.state = ReceiveState.stopped ∨
      (receiverStopped.state = ReceiveState.run ∨ receiverStopped.state = ReceiveState.paused) ∧
      receiverStopped.held < (receivingWork receiverStopped).length ∧ receiverStopped.burstSeen = false)) ∧
    (State.chairHears (chairReceiving receiverUnseen) ⟨51, 7, .sum 77 33 4#16⟩ laterBeacon (chairHeard
      (chairReceiving receiverUnseen) 51 7 (.sum 77 33 4#16)) ∧ (chairReceiving receiverUnseen).engine.active =
      some (receivingWork receiverUnseen) ∧ (receivingWork receiverUnseen).side = Side.receiver receiverUnseen ∧
      (receiverUnseen.pressure = true → 2 < laterBeacon.length) ∧ (⟨51, 7, .sum 77 33 4#16⟩ : Frame).source =
      (receivingWork receiverUnseen).peer ∧ (⟨51, 7, .sum 77 33 4#16⟩ : Frame).body = Body.sum (receivingWork
      receiverUnseen).number 33 4#16 ∧ (receiverUnseen.state = ReceiveState.stopped ∨ (receiverUnseen.state =
      ReceiveState.run ∨ receiverUnseen.state = ReceiveState.paused) ∧ receiverUnseen.held < (receivingWork
      receiverUnseen).length ∧ receiverUnseen.burstSeen = false)) ∧
    (State.chairHears (chairReceiving receiverRun) ⟨23, 7, .lag 77 33⟩ laterBeacon (chairHeard (chairReceiving
      receiverRun) 23 7 (.lag 77 33)) ∧ (chairReceiving receiverRun).engine.active = some (receivingWork
      receiverRun) ∧ (receivingWork receiverRun).side = Side.receiver receiverRun ∧ (receiverRun.pressure = true
      → 2 < laterBeacon.length) ∧ (⟨23, 7, .lag 77 33⟩ : Frame).source = (receivingWork receiverRun).machine ∧
      (⟨23, 7, .lag 77 33⟩ : Frame).body = Body.lag (receivingWork receiverRun).number 33 ∧ (receivingWork
      receiverRun).length ≤ 33) ∧
    (State.chairHears (chairReceiving receiverPaused) ⟨23, 7, .lag 77 32⟩ laterBeacon (chairHeard
      (chairReceiving receiverPaused) 23 7 (.lag 77 32)) ∧ (chairReceiving receiverPaused).engine.active = some
      (receivingWork receiverPaused) ∧ (receivingWork receiverPaused).side = Side.receiver receiverPaused ∧
      (receiverPaused.pressure = true → 2 < laterBeacon.length) ∧ (⟨23, 7, .lag 77 32⟩ : Frame).source =
      (receivingWork receiverPaused).machine ∧ (⟨23, 7, .lag 77 32⟩ : Frame).body = Body.lag (receivingWork
      receiverPaused).number 32 ∧ 32 < (receivingWork receiverPaused).length ∧ (receiverPaused.state =
      ReceiveState.paused ∨ receiverPaused.state = ReceiveState.check ∧ (receiverPaused.hostHold = true ∨
      receiverPaused.pressure = true))) ∧
    (State.chairHears (chairReceiving receiverHeld) ⟨23, 7, .lag 77 32⟩ laterBeacon (chairHeard (chairReceiving
      receiverHeld) 23 7 (.lag 77 32)) ∧ (chairReceiving receiverHeld).engine.active = some (receivingWork
      receiverHeld) ∧ (receivingWork receiverHeld).side = Side.receiver receiverHeld ∧ (receiverHeld.pressure =
      true → 2 < laterBeacon.length) ∧ (⟨23, 7, .lag 77 32⟩ : Frame).source = (receivingWork
      receiverHeld).machine ∧ (⟨23, 7, .lag 77 32⟩ : Frame).body = Body.lag (receivingWork receiverHeld).number
      32 ∧ 32 < (receivingWork receiverHeld).length ∧ (receiverHeld.state = ReceiveState.paused ∨
      receiverHeld.state = ReceiveState.check ∧ (receiverHeld.hostHold = true ∨ receiverHeld.pressure = true))) ∧
    (State.chairHears (chairReceiving receiverStopped) ⟨23, 7, .lag 77 3⟩ laterBeacon (chairHeard
      (chairReceiving receiverStopped) 23 7 (.lag 77 3)) ∧ (chairReceiving receiverStopped).engine.active = some
      (receivingWork receiverStopped) ∧ (receivingWork receiverStopped).side = Side.receiver receiverStopped ∧
      (receiverStopped.pressure = true → 2 < laterBeacon.length) ∧ (⟨23, 7, .lag 77 3⟩ : Frame).source =
      (receivingWork receiverStopped).machine ∧ (⟨23, 7, .lag 77 3⟩ : Frame).body = Body.lag (receivingWork
      receiverStopped).number 3 ∧ 3 < (receivingWork receiverStopped).length ∧ receiverStopped.state =
      ReceiveState.stopped) ∧
    (State.chairHears (chairReceiving receiverCheck) ⟨23, 7, .lag 77 3⟩ laterBeacon (chairHeard (chairReceiving
      receiverCheck) 23 7 (.lag 77 3)) ∧ (chairReceiving receiverCheck).engine.active = some (receivingWork
      receiverCheck) ∧ (receivingWork receiverCheck).side = Side.receiver receiverCheck ∧
      (receiverCheck.pressure = true → 2 < laterBeacon.length) ∧ (⟨23, 7, .lag 77 3⟩ : Frame).source =
      (receivingWork receiverCheck).machine ∧ (⟨23, 7, .lag 77 3⟩ : Frame).body = Body.lag (receivingWork
      receiverCheck).number 3 ∧ 3 < (receivingWork receiverCheck).length ∧ receiverCheck.state =
      ReceiveState.check ∧ receiverCheck.hostHold = false ∧ receiverCheck.pressure = false) :=
  ⟨⟨⟨rfl, rfl, rfl⟩, rfl, rfl, rfl, rfl, rfl, rfl, rfl, by decide⟩, ⟨⟨rfl, rfl, rfl⟩, rfl, rfl, rfl, rfl, rfl,
    rfl, rfl, by decide⟩, ⟨⟨rfl, rfl, rfl⟩, rfl, rfl, rfl, rfl, rfl, rfl, by decide⟩, ⟨⟨rfl, rfl, rfl⟩, rfl,
    rfl, rfl, rfl, .inl ⟨rfl,rfl,rfl,⟨24,_,rfl,by decide⟩⟩⟩, ⟨⟨rfl, rfl, rfl⟩, rfl, rfl, rfl, rfl, .inr (.inl
    ⟨rfl,rfl,rfl,by decide,rfl,⟨33,_,rfl⟩⟩)⟩, ⟨⟨rfl, rfl, rfl⟩, rfl, rfl, rfl, rfl, .inr (.inr
    ⟨rfl,rfl,⟨12,rfl,by decide,by decide⟩⟩)⟩, ⟨⟨rfl, rfl, rfl⟩, rfl, rfl, by decide, rfl, by decide⟩, ⟨⟨rfl,
    rfl, rfl⟩, rfl, rfl, by decide, rfl, by decide⟩, ⟨⟨rfl, rfl, rfl⟩, rfl, rfl, by decide, rfl, by decide⟩,
    ⟨⟨rfl, rfl, rfl⟩, rfl, rfl, by decide, rfl, by decide⟩, ⟨⟨rfl, rfl, rfl⟩, rfl, rfl, by decide, rfl,
    by decide⟩, ⟨⟨rfl, rfl, rfl⟩, rfl, rfl, by decide, rfl, by decide⟩, ⟨⟨rfl, rfl, rfl⟩, rfl, rfl, by decide,
    rfl, rfl, by decide, rfl⟩, ⟨⟨rfl, rfl, rfl⟩, rfl, rfl, by decide, rfl, rfl, by decide, rfl, by decide⟩,
    ⟨⟨rfl, rfl, rfl⟩, rfl, rfl, by decide, rfl, rfl, rfl, by decide, rfl, by decide⟩, ⟨⟨rfl, rfl, rfl⟩, rfl,
    rfl, by decide, rfl, rfl, rfl, by decide, by decide⟩, ⟨⟨rfl, rfl, rfl⟩, rfl, rfl, by decide, rfl, rfl,
    by decide⟩, ⟨⟨rfl, rfl, rfl⟩, rfl, rfl, by decide, rfl, rfl, by decide⟩, ⟨⟨rfl, rfl, rfl⟩, rfl, rfl,
    by decide, rfl, rfl, rfl, by decide, rfl⟩, ⟨⟨rfl, rfl, rfl⟩, rfl, rfl, by decide, rfl, rfl, by decide⟩,
    ⟨⟨rfl, rfl, rfl⟩, rfl, rfl, by decide, rfl, rfl, by decide⟩, ⟨⟨rfl, rfl, rfl⟩, rfl, rfl, by decide, rfl,
    rfl, by decide⟩, ⟨⟨rfl, rfl, rfl⟩, rfl, rfl, by decide, rfl, rfl, by decide, by decide⟩, ⟨⟨rfl, rfl, rfl⟩,
    rfl, rfl, by decide, rfl, rfl, by decide, by decide⟩, ⟨⟨rfl, rfl, rfl⟩, rfl, rfl, by decide, rfl, rfl,
    by decide, rfl⟩, ⟨⟨rfl, rfl, rfl⟩, rfl, rfl, by decide, rfl, rfl, by decide, rfl, rfl, rfl⟩⟩

theorem witness_SenderTakesHold :
    (State.chairHears (chairWith (serving (sendingWork senderRun))) ⟨51, 7, .hold 77 254⟩ laterBeacon
      (chairHeard (chairWith (serving (sendingWork senderRun))) 51 7 (.hold 77 254)) ∧ (chairWith (serving
      (sendingWork senderRun))).engine.active = some (sendingWork senderRun) ∧ (sendingWork senderRun).side =
      Side.sender senderRun ∧ (⟨51, 7, .hold 77 254⟩ : Frame).source = (sendingWork senderRun).peer ∧ (⟨51, 7,
      .hold 77 254⟩ : Frame).body = Body.hold (sendingWork senderRun).number 254 ∧ 254 = (sendingWork
      senderRun).burst ∧ senderRun.state = SendState.run) ∧
    (State.chairHears (chairWith (serving (sendingWork senderWaiting))) ⟨51, 7, .hold 77 254⟩ laterBeacon
      (chairHeard (chairWith (serving (sendingWork senderWaiting))) 51 7 (.hold 77 254)) ∧ (chairWith (serving
      (sendingWork senderWaiting))).engine.active = some (sendingWork senderWaiting) ∧ (sendingWork
      senderWaiting).side = Side.sender senderWaiting ∧ (⟨51, 7, .hold 77 254⟩ : Frame).source = (sendingWork
      senderWaiting).peer ∧ (⟨51, 7, .hold 77 254⟩ : Frame).body = Body.hold (sendingWork senderWaiting).number
      254 ∧ 254 = (sendingWork senderWaiting).burst ∧ (senderWaiting.state = SendState.wait ∨
      senderWaiting.state = SendState.paused ∨ senderWaiting.state = SendState.done)) ∧
    (State.chairHears (chairWith (serving (sendingWork senderRun))) ⟨51, 7, .hold 77 3⟩ laterBeacon (chairHeard
      (chairWith (serving (sendingWork senderRun))) 51 7 (.hold 77 3)) ∧ (chairWith (serving (sendingWork
      senderRun))).engine.active = some (sendingWork senderRun) ∧ (sendingWork senderRun).side = Side.sender
      senderRun ∧ (⟨51, 7, .hold 77 3⟩ : Frame).source = (sendingWork senderRun).peer ∧ (⟨51, 7, .hold 77 3⟩ :
      Frame).body = Body.hold (sendingWork senderRun).number 3 ∧ 3 ≠ (sendingWork senderRun).burst) :=
  ⟨⟨⟨rfl, rfl, rfl⟩, rfl, rfl, rfl, rfl, rfl, rfl⟩, ⟨⟨rfl, rfl, rfl⟩, rfl, rfl, rfl, rfl, rfl, by decide⟩,
    ⟨⟨rfl, rfl, rfl⟩, rfl, rfl, rfl, rfl, by decide⟩⟩

theorem witness_SenderTakesGoAndStop :
    (State.chairHears (chairSending senderWait) ⟨51, 7, .go 77 1 8⟩ laterBeacon (chairEmptyQueue (chairSending
      senderWait) 51 7 (.go 77 1 8)) ∧ (chairSending senderWait).engine.active = some (sendingWork senderWait) ∧
      (sendingWork senderWait).side = Side.sender senderWait ∧ (⟨51, 7, .go 77 1 8⟩ : Frame).source =
      (sendingWork senderWait).peer ∧ (⟨51, 7, .go 77 1 8⟩ : Frame).body = Body.go (sendingWork
      senderWait).number 1 8 ∧ 1 ≠ (sendingWork senderWait).burst ∧ senderWait.state ≠ SendState.run ∧
      (chairEmptyQueue (chairSending senderWait) 51 7 (.go 77 1 8)).line.queue = [] ∧ senderWait.queued = 0 ∧ 8
      + 24 < senderWait.length) ∧
    (State.chairHears (chairSending senderWait) ⟨51, 7, .go 77 1 32⟩ laterBeacon (chairEmptyQueue (chairSending
      senderWait) 51 7 (.go 77 1 32)) ∧ (chairSending senderWait).engine.active = some (sendingWork senderWait)
      ∧ (sendingWork senderWait).side = Side.sender senderWait ∧ (⟨51, 7, .go 77 1 32⟩ : Frame).source =
      (sendingWork senderWait).peer ∧ (⟨51, 7, .go 77 1 32⟩ : Frame).body = Body.go (sendingWork
      senderWait).number 1 32 ∧ 1 ≠ (sendingWork senderWait).burst ∧ senderWait.state ≠ SendState.run ∧
      (chairEmptyQueue (chairSending senderWait) 51 7 (.go 77 1 32)).line.queue = [] ∧ senderWait.queued = 0 ∧
      32 < senderWait.length ∧ senderWait.length ≤ 32 + 8) ∧
    (State.chairHears (chairSending senderWait) ⟨51, 7, .go 77 1 33⟩ laterBeacon (chairEmptyQueue (chairSending
      senderWait) 51 7 (.go 77 1 33)) ∧ (chairSending senderWait).engine.active = some (sendingWork senderWait)
      ∧ (sendingWork senderWait).side = Side.sender senderWait ∧ (⟨51, 7, .go 77 1 33⟩ : Frame).source =
      (sendingWork senderWait).peer ∧ (⟨51, 7, .go 77 1 33⟩ : Frame).body = Body.go (sendingWork
      senderWait).number 1 33 ∧ 1 ≠ (sendingWork senderWait).burst ∧ senderWait.state ≠ SendState.run ∧
      senderWait.length ≤ 33) ∧
    (State.chairHears (chairSending senderRun) ⟨51, 7, .go 77 1 8⟩ laterBeacon (chairOwnSegments (chairSending
      senderRun) 51 7 (.go 77 1 8)) ∧ (chairSending senderRun).engine.active = some (sendingWork senderRun) ∧
      (sendingWork senderRun).side = Side.sender senderRun ∧ (⟨51, 7, .go 77 1 8⟩ : Frame).source = (sendingWork
      senderRun).peer ∧ (⟨51, 7, .go 77 1 8⟩ : Frame).body = Body.go (sendingWork senderRun).number 1 8 ∧ 1 ≠
      (sendingWork senderRun).burst ∧ senderRun.state = SendState.run ∧ (chairOwnSegments (chairSending
      senderRun) 51 7 (.go 77 1 8)).line.transmitter ≠ Transmitter.sending ∧ List.filter (fun e => !isSegmentOf
      (sendingWork senderRun).number e.frame) (chairOwnSegments (chairSending senderRun) 51 7 (.go 77 1
      8)).line.waiting = [] ∧ senderRun.queued = List.countP (fun e => isSegmentOf (sendingWork
      senderRun).number e.frame) (chairOwnSegments (chairSending senderRun) 51 7 (.go 77 1 8)).line.waiting ∧ 8
      + 24 < senderRun.length) ∧
    (State.chairHears (chairSending senderRun) ⟨51, 7, .go 77 1 33⟩ laterBeacon (chairSegmentQueue (chairSending
      senderRun) 51 7 (.go 77 1 33)) ∧ (chairSending senderRun).engine.active = some (sendingWork senderRun) ∧
      (sendingWork senderRun).side = Side.sender senderRun ∧ (⟨51, 7, .go 77 1 33⟩ : Frame).source =
      (sendingWork senderRun).peer ∧ (⟨51, 7, .go 77 1 33⟩ : Frame).body = Body.go (sendingWork
      senderRun).number 1 33 ∧ 1 ≠ (sendingWork senderRun).burst ∧ senderRun.state = SendState.run ∧
      senderRun.length ≤ 33) ∧
    (State.chairHears (chairSending senderRun) ⟨51, 7, .go 77 254 16⟩ laterBeacon (chairEmptyQueue (chairSending
      senderRun) 51 7 (.go 77 254 16)) ∧ (chairSending senderRun).engine.active = some (sendingWork senderRun) ∧
      (sendingWork senderRun).side = Side.sender senderRun ∧ (⟨51, 7, .go 77 254 16⟩ : Frame).source =
      (sendingWork senderRun).peer ∧ (⟨51, 7, .go 77 254 16⟩ : Frame).body = Body.go (sendingWork
      senderRun).number (sendingWork senderRun).burst 16 ∧ senderRun.state ≠ SendState.paused) ∧
    (State.chairHears (chairSending senderPausedDone) ⟨51, 7, .go 77 254 16⟩ laterBeacon (chairEmptyQueue
      (chairSending senderPausedDone) 51 7 (.go 77 254 16)) ∧ (chairSending senderPausedDone).engine.active =
      some (sendingWork senderPausedDone) ∧ (sendingWork senderPausedDone).side = Side.sender senderPausedDone ∧
      (⟨51, 7, .go 77 254 16⟩ : Frame).source = (sendingWork senderPausedDone).peer ∧ (⟨51, 7, .go 77 254 16⟩ :
      Frame).body = Body.go (sendingWork senderPausedDone).number (sendingWork senderPausedDone).burst 16 ∧
      senderPausedDone.state = SendState.paused ∧ senderPausedDone.length ≤ senderPausedDone.position) ∧
    (State.chairHears (chairSending senderPausedFull) ⟨51, 7, .go 77 254 16⟩ laterBeacon (chairSegmentQueue
      (chairSending senderPausedFull) 51 7 (.go 77 254 16)) ∧ (chairSending senderPausedFull).engine.active =
      some (sendingWork senderPausedFull) ∧ (sendingWork senderPausedFull).side = Side.sender senderPausedFull ∧
      (⟨51, 7, .go 77 254 16⟩ : Frame).source = (sendingWork senderPausedFull).peer ∧ (⟨51, 7, .go 77 254 16⟩ :
      Frame).body = Body.go (sendingWork senderPausedFull).number (sendingWork senderPausedFull).burst 16 ∧
      senderPausedFull.state = SendState.paused ∧ senderPausedFull.position < senderPausedFull.length ∧ 3 ≤
      senderPausedFull.queued) ∧
    (State.chairHears (chairSending senderPaused) ⟨51, 7, .go 77 254 16⟩ laterBeacon (chairEmptyQueue
      (chairSending senderPaused) 51 7 (.go 77 254 16)) ∧ (chairSending senderPaused).engine.active = some
      (sendingWork senderPaused) ∧ (sendingWork senderPaused).side = Side.sender senderPaused ∧ (⟨51, 7, .go 77
      254 16⟩ : Frame).source = (sendingWork senderPaused).peer ∧ (⟨51, 7, .go 77 254 16⟩ : Frame).body =
      Body.go (sendingWork senderPaused).number (sendingWork senderPaused).burst 16 ∧ senderPaused.state =
      SendState.paused ∧ (chairEmptyQueue (chairSending senderPaused) 51 7 (.go 77 254 16)).line.queue = [] ∧
      senderPaused.queued = 0 ∧ senderPaused.position + 24 < senderPaused.length) ∧
    (State.chairHears (chairSending senderRun) ⟨51, 7, .stop 77 254⟩ laterBeacon (chairSegmentQueue
      (chairSending senderRun) 51 7 (.stop 77 254)) ∧ (chairSending senderRun).engine.active = some (sendingWork
      senderRun) ∧ (sendingWork senderRun).side = Side.sender senderRun ∧ (⟨51, 7, .stop 77 254⟩ : Frame).source
      = (sendingWork senderRun).peer ∧ (⟨51, 7, .stop 77 254⟩ : Frame).body = Body.stop (sendingWork
      senderRun).number (sendingWork senderRun).burst ∧ senderRun.state ≠ SendState.wait) ∧
    (State.chairHears (chairSending senderWait) ⟨51, 7, .stop 77 254⟩ laterBeacon (chairEmptyQueue (chairSending
      senderWait) 51 7 (.stop 77 254)) ∧ (chairSending senderWait).engine.active = some (sendingWork senderWait)
      ∧ (sendingWork senderWait).side = Side.sender senderWait ∧ (⟨51, 7, .stop 77 254⟩ : Frame).source =
      (sendingWork senderWait).peer ∧ (⟨51, 7, .stop 77 254⟩ : Frame).body = Body.stop (sendingWork
      senderWait).number 254 ∧ (254 ≠ (sendingWork senderWait).burst ∨ senderWait.state = SendState.wait)) ∧
    (State.chairHears (chairSending senderRun) ⟨51, 7, .stop 77 3⟩ laterBeacon (chairEmptyQueue (chairSending
      senderRun) 51 7 (.stop 77 3)) ∧ (chairSending senderRun).engine.active = some (sendingWork senderRun) ∧
      (sendingWork senderRun).side = Side.sender senderRun ∧ (⟨51, 7, .stop 77 3⟩ : Frame).source = (sendingWork
      senderRun).peer ∧ (⟨51, 7, .stop 77 3⟩ : Frame).body = Body.stop (sendingWork senderRun).number 3 ∧ (3 ≠
      (sendingWork senderRun).burst ∨ senderRun.state = SendState.wait)) :=
  ⟨⟨⟨rfl, rfl, rfl⟩, rfl, rfl, rfl, rfl, by decide, by decide, rfl, rfl, by decide⟩, ⟨⟨rfl, rfl, rfl⟩, rfl, rfl,
    rfl, rfl, by decide, by decide, rfl, rfl, by decide, by decide⟩, ⟨⟨rfl, rfl, rfl⟩, rfl, rfl, rfl, rfl,
    by decide, by decide, by decide⟩, ⟨⟨rfl, rfl, rfl⟩, rfl, rfl, rfl, rfl, by decide, rfl, by decide, rfl, rfl,
    by decide⟩, ⟨⟨rfl, rfl, rfl⟩, rfl, rfl, rfl, rfl, by decide, rfl, by decide⟩, ⟨⟨rfl, rfl, rfl⟩, rfl, rfl,
    rfl, rfl, by decide⟩, ⟨⟨rfl, rfl, rfl⟩, rfl, rfl, rfl, rfl, rfl, by decide⟩, ⟨⟨rfl, rfl, rfl⟩, rfl, rfl,
    rfl, rfl, rfl, by decide, by decide⟩, ⟨⟨rfl, rfl, rfl⟩, rfl, rfl, rfl, rfl, rfl, rfl, rfl, by decide⟩,
    ⟨⟨rfl, rfl, rfl⟩, rfl, rfl, rfl, rfl, by decide⟩, ⟨⟨rfl, rfl, rfl⟩, rfl, rfl, rfl, rfl, by decide⟩, ⟨⟨rfl,
    rfl, rfl⟩, rfl, rfl, rfl, rfl, by decide⟩⟩

theorem witness_CommitAndAbortEndTheTransfer :
    (State.chairHears (chairSending senderRun) ⟨23, 63, .commit 51 88 77⟩ laterBeacon (chairHeard (chairSending
      senderRun) 23 63 (.commit 51 88 77)) ∧ (chairSending senderRun).engine =
      { active := some (sendingWork senderRun), pendingReceive := none } ∧ (sendingWork senderRun).machine =
      (⟨23, 63, .commit 51 88 77⟩ : Frame).source ∧ ChairBlocks.seatOf (⟨23, 63, .commit 51 88 77⟩ :
      Frame).source (sendingWork senderRun).seat (chairSending senderRun) ∧ ((chairSending senderRun).seats.get
      (sendingWork senderRun).seat).transfer = some (sendingWork senderRun).number ∧ (sendingWork
      senderRun).side = Side.sender senderRun ∧ ((chairSending senderRun).seats.get (sendingWork
      senderRun).seat).state = SeatState.sending ∧ (⟨23, 63, .commit 51 88 77⟩ : Frame).body = Body.commit 51 88
      (sendingWork senderRun).number ∧ 51 ≠ (chairHeard (chairSending senderRun) 23 63 (.commit 51 88
      77)).config.station) ∧
    (State.chairHears (chairSending senderRun) ⟨23, 63, .abort 77 Reason.windowExpired 7 88⟩ laterBeacon
      (chairHeard (chairSending senderRun) 23 63 (.abort 77 Reason.windowExpired 7 88)) ∧ (chairSending
      senderRun).engine = { active := some (sendingWork senderRun), pendingReceive := none } ∧ (sendingWork
      senderRun).machine = (⟨23, 63, .abort 77 Reason.windowExpired 7 88⟩ : Frame).source ∧ ChairBlocks.seatOf
      (⟨23, 63, .abort 77 Reason.windowExpired 7 88⟩ : Frame).source (sendingWork senderRun).seat (chairSending
      senderRun) ∧ ((chairSending senderRun).seats.get (sendingWork senderRun).seat).transfer = some
      (sendingWork senderRun).number ∧ (sendingWork senderRun).side = Side.sender senderRun ∧ ((chairSending
      senderRun).seats.get (sendingWork senderRun).seat).state = SeatState.sending ∧ (⟨23, 63, .abort 77
      Reason.windowExpired 7 88⟩ : Frame).body = Body.abort (sendingWork senderRun).number Reason.windowExpired
      (chairHeard (chairSending senderRun) 23 63 (.abort 77 Reason.windowExpired 7 88)).config.station 88) ∧
    (State.chairHears (chairSending senderRun) ⟨23, 63, .abort 77 Reason.windowExpired 0 88⟩ laterBeacon
      (chairHeard (chairSending senderRun) 23 63 (.abort 77 Reason.windowExpired 0 88)) ∧ (chairSending
      senderRun).engine = { active := some (sendingWork senderRun), pendingReceive := none } ∧ (sendingWork
      senderRun).machine = (⟨23, 63, .abort 77 Reason.windowExpired 0 88⟩ : Frame).source ∧ ChairBlocks.seatOf
      (⟨23, 63, .abort 77 Reason.windowExpired 0 88⟩ : Frame).source (sendingWork senderRun).seat (chairSending
      senderRun) ∧ ((chairSending senderRun).seats.get (sendingWork senderRun).seat).transfer = some
      (sendingWork senderRun).number ∧ (sendingWork senderRun).side = Side.sender senderRun ∧ ((chairSending
      senderRun).seats.get (sendingWork senderRun).seat).state = SeatState.sending ∧ (⟨23, 63, .abort 77
      Reason.windowExpired 0 88⟩ : Frame).body = Body.abort (sendingWork senderRun).number Reason.windowExpired
      0 88 ∧ 0 ≠ (chairHeard (chairSending senderRun) 23 63 (.abort 77 Reason.windowExpired 0
      88)).config.station) ∧
    (State.chairHears (chairReceiving receiverRun) ⟨23, 63, .commit 7 88 77⟩ laterBeacon (chairHeard
      (chairReceiving receiverRun) 23 63 (.commit 7 88 77)) ∧ (chairReceiving receiverRun).engine =
      { active := some (receivingWork receiverRun), pendingReceive := none } ∧ (receivingWork
      receiverRun).machine = (⟨23, 63, .commit 7 88 77⟩ : Frame).source ∧ ChairBlocks.seatOf (⟨23, 63, .commit 7
      88 77⟩ : Frame).source (receivingWork receiverRun).seat (chairReceiving receiverRun) ∧ ((chairReceiving
      receiverRun).seats.get (receivingWork receiverRun).seat).transfer = some (receivingWork
      receiverRun).number ∧ (receivingWork receiverRun).side = Side.receiver receiverRun ∧ ((chairReceiving
      receiverRun).seats.get (receivingWork receiverRun).seat).state = SeatState.receiving ∧ (⟨23, 63, .commit 7
      88 77⟩ : Frame).body = Body.commit (chairHeard (chairReceiving receiverRun) 23 63 (.commit 7 88
      77)).config.station 88 (receivingWork receiverRun).number) ∧
    (State.chairHears (chairReceiving receiverRun) ⟨23, 63, .abort 77 Reason.windowExpired 9 88⟩ laterBeacon
      (chairHeard (chairReceiving receiverRun) 23 63 (.abort 77 Reason.windowExpired 9 88)) ∧ (chairReceiving
      receiverRun).engine = { active := some (receivingWork receiverRun), pendingReceive := none } ∧
      (receivingWork receiverRun).machine = (⟨23, 63, .abort 77 Reason.windowExpired 9 88⟩ : Frame).source ∧
      ChairBlocks.seatOf (⟨23, 63, .abort 77 Reason.windowExpired 9 88⟩ : Frame).source (receivingWork
      receiverRun).seat (chairReceiving receiverRun) ∧ ((chairReceiving receiverRun).seats.get (receivingWork
      receiverRun).seat).transfer = some (receivingWork receiverRun).number ∧ (receivingWork receiverRun).side =
      Side.receiver receiverRun ∧ ((chairReceiving receiverRun).seats.get (receivingWork
      receiverRun).seat).state = SeatState.receiving ∧ (⟨23, 63, .abort 77 Reason.windowExpired 9 88⟩ :
      Frame).body = Body.abort (receivingWork receiverRun).number Reason.windowExpired 9 88) ∧
    (State.chairHears (chairReceiving receiverRun) ⟨23, 63, .commit 9 88 77⟩ laterBeacon (chairHeard
      (chairReceiving receiverRun) 23 63 (.commit 9 88 77)) ∧ (chairReceiving receiverRun).engine =
      { active := some (receivingWork receiverRun), pendingReceive := none } ∧ (receivingWork
      receiverRun).machine = (⟨23, 63, .commit 9 88 77⟩ : Frame).source ∧ ChairBlocks.seatOf (⟨23, 63, .commit 9
      88 77⟩ : Frame).source (receivingWork receiverRun).seat (chairReceiving receiverRun) ∧ ((chairReceiving
      receiverRun).seats.get (receivingWork receiverRun).seat).transfer = some (receivingWork
      receiverRun).number ∧ (receivingWork receiverRun).side = Side.receiver receiverRun ∧ ((chairReceiving
      receiverRun).seats.get (receivingWork receiverRun).seat).state = SeatState.receiving ∧ (⟨23, 63, .commit 9
      88 77⟩ : Frame).body = Body.commit 9 88 (receivingWork receiverRun).number ∧ 9 ≠ (chairHeard
      (chairReceiving receiverRun) 23 63 (.commit 9 88 77)).config.station) ∧
    (State.chairHears (chairPending (sendingWork senderRun) seatSending) ⟨22, 63, .abort 78 Reason.windowExpired
      9 88⟩ laterBeacon (chairHeard (chairPending (sendingWork senderRun) seatSending) 22 63 (.abort 78
      Reason.windowExpired 9 88)) ∧ (chairPending (sendingWork senderRun) seatSending).engine =
      { active := some (sendingWork senderRun), pendingReceive := some pending78 } ∧ pending78.seat ≠
      (sendingWork senderRun).seat ∧ (chairPending (sendingWork senderRun) seatSending).engine.unpressed ∧
      pending78.machine = (⟨22, 63, .abort 78 Reason.windowExpired 9 88⟩ : Frame).source ∧ ((sendingWork
      senderRun).machine ≠ pending78.machine ∨ (sendingWork senderRun).number ≠ pending78.number) ∧
      ChairBlocks.seatOf (⟨22, 63, .abort 78 Reason.windowExpired 9 88⟩ : Frame).source pending78.seat
      (chairPending (sendingWork senderRun) seatSending) ∧ ((chairPending (sendingWork senderRun)
      seatSending).seats.get pending78.seat).transfer = some pending78.number ∧ ((chairPending (sendingWork
      senderRun) seatSending).seats.get pending78.seat).state = SeatState.receiving ∧ (⟨22, 63, .abort 78
      Reason.windowExpired 9 88⟩ : Frame).body = Body.abort pending78.number Reason.windowExpired 9 88) ∧
    (State.chairHears (chairPending (sendingWork senderRun) seatSending) ⟨22, 63, .commit 7 88 78⟩ laterBeacon
      (chairHeard (chairPending (sendingWork senderRun) seatSending) 22 63 (.commit 7 88 78)) ∧ (chairPending
      (sendingWork senderRun) seatSending).engine =
      { active := some (sendingWork senderRun), pendingReceive := some pending78 } ∧ pending78.seat ≠
      (sendingWork senderRun).seat ∧ (chairPending (sendingWork senderRun) seatSending).engine.unpressed ∧
      pending78.machine = (⟨22, 63, .commit 7 88 78⟩ : Frame).source ∧ ((sendingWork senderRun).machine ≠
      pending78.machine ∨ (sendingWork senderRun).number ≠ pending78.number) ∧ ChairBlocks.seatOf (⟨22, 63,
      .commit 7 88 78⟩ : Frame).source pending78.seat (chairPending (sendingWork senderRun) seatSending) ∧
      ((chairPending (sendingWork senderRun) seatSending).seats.get pending78.seat).transfer = some
      pending78.number ∧ ((chairPending (sendingWork senderRun) seatSending).seats.get pending78.seat).state =
      SeatState.receiving ∧ (⟨22, 63, .commit 7 88 78⟩ : Frame).body = Body.commit (chairHeard (chairPending
      (sendingWork senderRun) seatSending) 22 63 (.commit 7 88 78)).config.station 88 pending78.number) ∧
    (State.chairHears (chairPending (sendingWork senderRun) seatSending) ⟨23, 63, .abort 77 Reason.windowExpired
      7 88⟩ laterBeacon (chairHeard (chairPending (sendingWork senderRun) seatSending) 23 63 (.abort 77
      Reason.windowExpired 7 88)) ∧ (chairPending (sendingWork senderRun) seatSending).engine =
      { active := some (sendingWork senderRun), pendingReceive := some pending78 } ∧ pending78.seat ≠
      (sendingWork senderRun).seat ∧ (sendingWork senderRun).side = Side.sender senderRun ∧ (sendingWork
      senderRun).machine = (⟨23, 63, .abort 77 Reason.windowExpired 7 88⟩ : Frame).source ∧ ChairBlocks.seatOf
      (⟨23, 63, .abort 77 Reason.windowExpired 7 88⟩ : Frame).source (sendingWork senderRun).seat (chairPending
      (sendingWork senderRun) seatSending) ∧ ((chairPending (sendingWork senderRun) seatSending).seats.get
      (sendingWork senderRun).seat).transfer = some (sendingWork senderRun).number ∧ ((chairPending (sendingWork
      senderRun) seatSending).seats.get (sendingWork senderRun).seat).state = SeatState.sending ∧ ((chairPending
      (sendingWork senderRun) seatSending).seats.get pending78.seat).state = SeatState.receiving ∧ (⟨23, 63,
      .abort 77 Reason.windowExpired 7 88⟩ : Frame).body = Body.abort (sendingWork senderRun).number
      Reason.windowExpired (chairHeard (chairPending (sendingWork senderRun) seatSending) 23 63 (.abort 77
      Reason.windowExpired 7 88)).config.station 88) ∧
    (State.chairHears chairWaiting ⟨22, 63, .abort 5 Reason.declined 9 88⟩ laterBeacon (chairHeard chairWaiting
      22 63 (.abort 5 Reason.declined 9 88)) ∧ chairWaiting.engine.unpressed ∧ ChairBlocks.seatOf (⟨22, 63,
      .abort 5 Reason.declined 9 88⟩ : Frame).source 2 chairWaiting ∧ (∀ (a : ActiveTransfer),
      chairWaiting.engine.active = some a → a.machine ≠ (⟨22, 63, .abort 5 Reason.declined 9 88⟩ : Frame).source
      ∨ a.number ≠ 5) ∧ (∀ (p : PendingReceive), chairWaiting.engine.pendingReceive = some p → p.machine ≠ (⟨22,
      63, .abort 5 Reason.declined 9 88⟩ : Frame).source ∨ p.number ≠ 5) ∧ (⟨22, 63, .abort 5 Reason.declined 9
      88⟩ : Frame).body = Body.abort 5 Reason.declined 9 88 ∧ (chairWaiting.seats.get 2).state =
      SeatState.waiting ∧ chairWaiting.engine.locks 2 = false) ∧
    (State.chairHears (chairWith engineIdle) ⟨22, 63, .abort 5 Reason.declined 9 88⟩ laterBeacon (chairHeard
      (chairWith engineIdle) 22 63 (.abort 5 Reason.declined 9 88)) ∧ (chairWith engineIdle).engine.unpressed ∧
      ChairBlocks.seatOf (⟨22, 63, .abort 5 Reason.declined 9 88⟩ : Frame).source 2 (chairWith engineIdle) ∧ (∀
      (a : ActiveTransfer), (chairWith engineIdle).engine.active = some a → a.machine ≠ (⟨22, 63, .abort 5
      Reason.declined 9 88⟩ : Frame).source ∨ a.number ≠ 5) ∧ (∀ (p : PendingReceive), (chairWith
      engineIdle).engine.pendingReceive = some p → p.machine ≠ (⟨22, 63, .abort 5 Reason.declined 9 88⟩ :
      Frame).source ∨ p.number ≠ 5) ∧ (⟨22, 63, .abort 5 Reason.declined 9 88⟩ : Frame).body = Body.abort 5
      Reason.declined 9 88 ∧ (((chairWith engineIdle).seats.get 2).state = SeatState.asking ∨ ((chairWith
      engineIdle).seats.get 2).state = SeatState.seizing)) :=
  ⟨⟨⟨rfl, rfl, rfl⟩, rfl, rfl, ⟨rfl, by decide⟩, rfl, rfl, rfl, rfl, by decide⟩, ⟨⟨rfl, rfl, rfl⟩, rfl, rfl,
    ⟨rfl, by decide⟩, rfl, rfl, rfl, rfl⟩, ⟨⟨rfl, rfl, rfl⟩, rfl, rfl, ⟨rfl, by decide⟩, rfl, rfl, rfl, rfl,
    by decide⟩, ⟨⟨rfl, rfl, rfl⟩, rfl, rfl, ⟨rfl, by decide⟩, rfl, rfl, rfl, rfl⟩, ⟨⟨rfl, rfl, rfl⟩, rfl, rfl,
    ⟨rfl, by decide⟩, rfl, rfl, rfl, rfl⟩, ⟨⟨rfl, rfl, rfl⟩, rfl, rfl, ⟨rfl, by decide⟩, rfl, rfl, rfl, rfl,
    by decide⟩, ⟨⟨rfl, rfl, rfl⟩, rfl, by decide, (by intro a r h; cases h; intro h; cases h), rfl, by decide,
    ⟨rfl, by decide⟩, rfl, rfl, rfl⟩, ⟨⟨rfl, rfl, rfl⟩, rfl, by decide,
    (by intro a r h; cases h; intro h; cases h), rfl, by decide, ⟨rfl, by decide⟩, rfl, rfl, rfl⟩, ⟨⟨rfl, rfl,
    rfl⟩, rfl, by decide, rfl, rfl, ⟨rfl, by decide⟩, rfl, rfl, rfl, rfl⟩, ⟨⟨rfl, rfl, rfl⟩,
    (by intro a r h; cases h), ⟨rfl, by decide⟩, by decide, by decide, rfl, rfl, rfl⟩, ⟨⟨rfl, rfl, rfl⟩,
    (by intro a r h; cases h), ⟨rfl, by decide⟩, by decide, by decide, rfl, by decide⟩⟩

theorem witness_OffersToTheTransmitQueue :
    State.reset.station ≠ StationState.online ∧
    ((lineWith Transmitter.defer ([queued Body.halt 1 0 0, queued (driveBody 1) 8 0 0] ++ queued (driveBody 2) 9
      3 4 :: eightReleases)).station = StationState.online ∧ isDrive ⟨7, 9, driveBody 5⟩ = true ∧ isDrive
      (queued (driveBody 2) 9 3 4).frame = true ∧ (queued (driveBody 2) 9 3 4).frame.target = (⟨7, 9, driveBody
      5⟩ : Frame).target ∧ (∀ e ∈ [queued Body.halt 1 0 0, queued (driveBody 1) 8 0 0], ¬(isDrive e.frame = true
      ∧ e.frame.target = (⟨7, 9, driveBody 5⟩ : Frame).target)) ∧ (lineWith Transmitter.defer ([queued Body.halt
      1 0 0, queued (driveBody 1) 8 0 0] ++ queued (driveBody 2) 9 3 4 :: eightReleases)).line.transmitter ≠
      Transmitter.sending ∧ (lineWith Transmitter.defer ([queued Body.halt 1 0 0, queued (driveBody 1) 8 0 0] ++
      queued (driveBody 2) 9 3 4 :: eightReleases)).line.queue = [queued Body.halt 1 0 0, queued (driveBody 1) 8
      0 0] ++ queued (driveBody 2) 9 3 4 :: eightReleases) ∧
    ((lineWith Transmitter.defer eightReleases).station = StationState.online ∧ (∀ e ∈ (lineWith
      Transmitter.defer eightReleases).line.queue, ¬(isDrive ⟨7, 9, .release 3⟩ = true ∧ isDrive e.frame = true
      ∧ e.frame.target = (⟨7, 9, .release 3⟩ : Frame).target)) ∧ 8 ≤ (lineWith Transmitter.defer
      eightReleases).line.queue.length ∧ isDrive ⟨7, 9, .release 3⟩ = false ∧ isSegment ⟨7, 9, .release 3⟩ =
      false) ∧
    ((lineWith Transmitter.defer eightReleases).station = StationState.online ∧ (∀ e ∈ (lineWith
      Transmitter.defer eightReleases).line.queue, ¬(isDrive ⟨7, 9, driveBody 3⟩ = true ∧ isDrive e.frame = true
      ∧ e.frame.target = (⟨7, 9, driveBody 3⟩ : Frame).target)) ∧ 8 ≤ (lineWith Transmitter.defer
      eightReleases).line.queue.length ∧ (isDrive ⟨7, 9, driveBody 3⟩ = true ∨ isSegment ⟨7, 9, driveBody 3⟩ =
      true)) ∧
    ((lineWith Transmitter.defer threeSegments).station = StationState.online ∧ (∀ e ∈ (lineWith
      Transmitter.defer threeSegments).line.queue, ¬(isDrive ⟨7, 9, .segment 77 1 1 [3#16]⟩ = true ∧ isDrive
      e.frame = true ∧ e.frame.target = (⟨7, 9, .segment 77 1 1 [3#16]⟩ : Frame).target)) ∧ isSegment ⟨7, 9,
      .segment 77 1 1 [3#16]⟩ = true ∧ 3 ≤ segmentCount (lineWith Transmitter.defer threeSegments).line.queue) ∧
    ((lineWith Transmitter.defer (twoHalts ++ others)).station = StationState.online ∧ (∀ e ∈ (lineWith
      Transmitter.defer (twoHalts ++ others)).line.queue, ¬(isDrive ⟨7, 9, driveBody 3⟩ = true ∧ isDrive e.frame
      = true ∧ e.frame.target = (⟨7, 9, driveBody 3⟩ : Frame).target)) ∧ (lineWith Transmitter.defer (twoHalts
      ++ others)).line.queue.length < 8 ∧ isHalt ⟨7, 9, driveBody 3⟩ = false ∧ (isSegment ⟨7, 9, driveBody 3⟩ =
      true → segmentCount (lineWith Transmitter.defer (twoHalts ++ others)).line.queue < 3)) ∧
    ((lineWith Transmitter.sending (twoHalts ++ others)).station = StationState.online ∧ (∀ e ∈ (lineWith
      Transmitter.sending (twoHalts ++ others)).line.queue, ¬(isDrive ⟨7, 9, driveBody 3⟩ = true ∧ isDrive
      e.frame = true ∧ e.frame.target = (⟨7, 9, driveBody 3⟩ : Frame).target)) ∧ (lineWith Transmitter.sending
      (twoHalts ++ others)).line.queue.length < 8 ∧ isHalt ⟨7, 9, driveBody 3⟩ = false ∧ (isSegment ⟨7, 9,
      driveBody 3⟩ = true → segmentCount (lineWith Transmitter.sending (twoHalts ++ others)).line.queue < 3)) ∧
    ((lineWith Transmitter.idle []).station = StationState.online ∧ (∀ e ∈ (lineWith Transmitter.idle
      []).line.queue, ¬(isDrive ⟨7, 9, driveBody 3⟩ = true ∧ isDrive e.frame = true ∧ e.frame.target = (⟨7, 9,
      driveBody 3⟩ : Frame).target)) ∧ (lineWith Transmitter.idle []).line.queue.length < 8 ∧ isHalt ⟨7, 9,
      driveBody 3⟩ = false ∧ (isSegment ⟨7, 9, driveBody 3⟩ = true → segmentCount (lineWith Transmitter.idle
      []).line.queue < 3)) ∧
    ((lineWith Transmitter.backoff (queued (driveBody 2) 9 3 4 :: eightReleases)).station = StationState.online
      ∧ isDrive ⟨7, 9, driveBody 5⟩ = true ∧ isDrive (queued (driveBody 2) 9 3 4).frame = true ∧ (queued
      (driveBody 2) 9 3 4).frame.target = (⟨7, 9, driveBody 5⟩ : Frame).target ∧ (∀ e ∈ ([] : List QueuedFrame),
      ¬(isDrive e.frame = true ∧ e.frame.target = (⟨7, 9, driveBody 5⟩ : Frame).target)) ∧ (lineWith
      Transmitter.backoff (queued (driveBody 2) 9 3 4 :: eightReleases)).line.transmitter ≠ Transmitter.sending
      ∧ (lineWith Transmitter.backoff (queued (driveBody 2) 9 3 4 :: eightReleases)).line.queue = [] ++ queued
      (driveBody 2) 9 3 4 :: eightReleases) ∧
    ((lineWith Transmitter.sending (queued (driveBody 2) 9 3 4 :: ([queued Body.halt 1 0 0, queued (driveBody 1)
      8 0 0] ++ queued (driveBody 2) 9 3 4 :: eightReleases))).station = StationState.online ∧ isDrive ⟨7, 9,
      driveBody 5⟩ = true ∧ isDrive (queued (driveBody 2) 9 3 4).frame = true ∧ (queued (driveBody 2) 9 3
      4).frame.target = (⟨7, 9, driveBody 5⟩ : Frame).target ∧ (∀ e ∈ [queued Body.halt 1 0 0, queued (driveBody
      1) 8 0 0], ¬(isDrive e.frame = true ∧ e.frame.target = (⟨7, 9, driveBody 5⟩ : Frame).target)) ∧ (lineWith
      Transmitter.sending (queued (driveBody 2) 9 3 4 :: ([queued Body.halt 1 0 0, queued (driveBody 1) 8 0 0]
      ++ queued (driveBody 2) 9 3 4 :: eightReleases))).line.transmitter = Transmitter.sending ∧ (lineWith
      Transmitter.sending (queued (driveBody 2) 9 3 4 :: ([queued Body.halt 1 0 0, queued (driveBody 1) 8 0 0]
      ++ queued (driveBody 2) 9 3 4 :: eightReleases))).line.queue = queued (driveBody 2) 9 3 4 :: ([queued
      Body.halt 1 0 0, queued (driveBody 1) 8 0 0] ++ queued (driveBody 2) 9 3 4 :: eightReleases)) ∧
    ((lineWith Transmitter.sending (driveQueued 3 1 0 :: (twoHalts ++ others))).station = StationState.online ∧
      (∀ e ∈ (lineWith Transmitter.sending (driveQueued 3 1 0 :: (twoHalts ++ others))).line.queue, ¬(isDrive
      ⟨7, 9, .halt⟩ = true ∧ isDrive e.frame = true ∧ e.frame.target = (⟨7, 9, .halt⟩ : Frame).target)) ∧ (∀ e ∈
      twoHalts, isHalt e.frame = true) ∧ (∀ (e : QueuedFrame), others[0]? = some e → isHalt e.frame = false) ∧
      (lineWith Transmitter.sending (driveQueued 3 1 0 :: (twoHalts ++ others))).line.queue.length < 8 ∧ isHalt
      ⟨7, 9, .halt⟩ = true ∧ (lineWith Transmitter.sending (driveQueued 3 1 0 :: (twoHalts ++
      others))).line.transmitter = Transmitter.sending ∧ (lineWith Transmitter.sending (driveQueued 3 1 0 ::
      (twoHalts ++ others))).line.queue = driveQueued 3 1 0 :: (twoHalts ++ others)) ∧
    ((lineWith Transmitter.defer (twoHalts ++ others)).station = StationState.online ∧ (∀ e ∈ (lineWith
      Transmitter.defer (twoHalts ++ others)).line.queue, ¬(isDrive ⟨7, 9, .halt⟩ = true ∧ isDrive e.frame =
      true ∧ e.frame.target = (⟨7, 9, .halt⟩ : Frame).target)) ∧ (∀ e ∈ twoHalts, isHalt e.frame = true) ∧ (∀ (e
      : QueuedFrame), others[0]? = some e → isHalt e.frame = false) ∧ (lineWith Transmitter.defer (twoHalts ++
      others)).line.queue.length < 8 ∧ isHalt ⟨7, 9, .halt⟩ = true ∧ (lineWith Transmitter.defer (twoHalts ++
      others)).line.transmitter ≠ Transmitter.sending ∧ (lineWith Transmitter.defer (twoHalts ++
      others)).line.queue = twoHalts ++ others) ∧
    ((lineWith Transmitter.idle []).station = StationState.online ∧ (∀ e ∈ (lineWith Transmitter.idle
      []).line.queue, ¬(isDrive ⟨7, 9, .halt⟩ = true ∧ isDrive e.frame = true ∧ e.frame.target = (⟨7, 9, .halt⟩
      : Frame).target)) ∧ (∀ e ∈ ([] : List QueuedFrame), isHalt e.frame = true) ∧ (∀ (e : QueuedFrame), ([] :
      List QueuedFrame)[0]? = some e → isHalt e.frame = false) ∧ (lineWith Transmitter.idle
      []).line.queue.length < 8 ∧ isHalt ⟨7, 9, .halt⟩ = true ∧ (lineWith Transmitter.idle []).line.transmitter
      ≠ Transmitter.sending ∧ (lineWith Transmitter.idle []).line.queue = [] ++ []) :=
  ⟨by decide, ⟨rfl, rfl, rfl, rfl, by decide, by decide, rfl⟩, ⟨rfl, by decide, by decide, rfl, rfl⟩, ⟨rfl,
    by decide, by decide, by decide⟩, ⟨rfl, by decide, rfl, by decide⟩, ⟨rfl, by decide, by decide, rfl,
    by decide⟩, ⟨rfl, by decide, by decide, rfl, by decide⟩, ⟨rfl, by decide, by decide, rfl, by decide⟩, ⟨rfl,
    rfl, rfl, rfl, by decide, by decide, rfl⟩, ⟨rfl, rfl, rfl, rfl, by decide, rfl, rfl⟩, ⟨rfl, by decide,
    by decide, by decide, by decide, rfl, rfl, rfl⟩, ⟨rfl, by decide, by decide, by decide, by decide, rfl,
    by decide, rfl⟩, ⟨rfl, by decide, by decide, by decide, by decide, rfl, by decide, rfl⟩⟩

theorem witness_AttemptsOnTheLine :
    ((lineWith Transmitter.sending (driveQueued 3 1 0 :: twoHalts)).line.queue = driveQueued 3 1 0 :: twoHalts ∧
      (lineWith Transmitter.sending (driveQueued 3 1 0 :: twoHalts)).line.transmitter = Transmitter.sending) ∧
    (lineEnding.line.queue = [driveQueued 3 1 0] ∧ Line.stayHigh 9 lineEnding.line = none) ∧
    ((lineWith Transmitter.defer (driveQueued 3 1 0 :: twoHalts)).line.queue = driveQueued 3 1 0 :: twoHalts ∧
      (lineWith Transmitter.defer (driveQueued 3 1 0 :: twoHalts)).line.assembly = none) ∧
    ((lineWith Transmitter.defer (driveQueued 3 1 0 :: twoHalts)).line.queue = driveQueued 3 1 0 :: twoHalts ∧
      Line.stayHigh 1 (lineWith Transmitter.defer (driveQueued 3 1 0 :: twoHalts)).line = some (lineAt
      Transmitter.defer (driveQueued 3 1 0 :: twoHalts) 16) ∧ (lineWith Transmitter.defer (driveQueued 3 1 0 ::
      twoHalts)).line.transmitter ≠ Transmitter.sending ∧ (lineWith Transmitter.defer (driveQueued 3 1 0 ::
      twoHalts)).line.transmitter = Transmitter.defer ∧ quietNeed (driveQueued 3 1 0).frame ≤ (lineAt
      Transmitter.defer (driveQueued 3 1 0 :: twoHalts) 16).quiet) ∧
    ((lineWith Transmitter.defer (driveQueued 3 1 0 :: twoHalts)).line.queue = driveQueued 3 1 0 :: twoHalts ∧
      Line.stayHigh 0 (lineWith Transmitter.defer (driveQueued 3 1 0 :: twoHalts)).line = some (lineAt
      Transmitter.defer (driveQueued 3 1 0 :: twoHalts) 15) ∧ (lineWith Transmitter.defer (driveQueued 3 1 0 ::
      twoHalts)).line.transmitter ≠ Transmitter.sending ∧ ((lineWith Transmitter.defer (driveQueued 3 1 0 ::
      twoHalts)).line.transmitter ≠ Transmitter.defer ∨ (lineAt Transmitter.defer (driveQueued 3 1 0 ::
      twoHalts) 15).quiet < quietNeed (driveQueued 3 1 0).frame)) ∧
    ((lineWith Transmitter.backoff (driveQueued 3 1 9 :: twoHalts)).line.queue = driveQueued 3 1 9 :: twoHalts ∧
      Line.stayHigh 32 (lineWith Transmitter.backoff (driveQueued 3 1 9 :: twoHalts)).line = some (lineAt
      Transmitter.backoff (driveQueued 3 1 9 :: twoHalts) 47) ∧ (lineWith Transmitter.backoff (driveQueued 3 1 9
      :: twoHalts)).line.transmitter ≠ Transmitter.sending ∧ ((lineWith Transmitter.backoff (driveQueued 3 1 9
      :: twoHalts)).line.transmitter ≠ Transmitter.defer ∨ (lineAt Transmitter.backoff (driveQueued 3 1 9 ::
      twoHalts) 47).quiet < quietNeed (driveQueued 3 1 9).frame)) ∧
    (lineHearing.line.queue = [driveQueued 3 1 0] ∧ Line.stayHigh 32 lineHearing.line = some lineCut ∧
      lineHearing.line.transmitter ≠ Transmitter.sending ∧ 11 ≤ 32) ∧
    (lineHearing.line.queue = [driveQueued 3 1 0] ∧ Line.stayHigh 32 lineHearing.line = some lineCut ∧
      lineHearing.line.transmitter ≠ Transmitter.sending ∧ lineHearing.line.transmitter = Transmitter.defer ∧
      quietNeed (driveQueued 3 1 0).frame ≤ lineCut.quiet) ∧
    (lineHaltWaits.line.queue = [queued Body.halt 9 0 0] ∧ Line.stayHigh 8 lineHaltWaits.line = some
      lineHaltStarts ∧ lineHaltWaits.line.transmitter ≠ Transmitter.sending ∧ lineHaltWaits.line.transmitter =
      Transmitter.defer ∧ quietNeed (queued Body.halt 9 0 0).frame ≤ lineHaltStarts.quiet) ∧
    (lineHearing.line.queue = [driveQueued 3 1 0] ∧ Line.stayHigh 3 lineHearing.line = some lineHeard3 ∧
      lineHearing.line.transmitter ≠ Transmitter.sending ∧ (lineHearing.line.transmitter ≠ Transmitter.defer ∨
      lineHeard3.quiet < quietNeed (driveQueued 3 1 0).frame)) ∧
    ((lineWith Transmitter.idle (driveQueued 3 1 0 :: twoHalts)).line.queue = driveQueued 3 1 0 :: twoHalts ∧
      (lineWith Transmitter.idle (driveQueued 3 1 0 :: twoHalts)).line.transmitter ≠ Transmitter.sending) ∧
    ((lineWith Transmitter.sending (queued (Body.release 3) 3 6 0 :: others)).line.queue = queued (Body.release
      3) 3 6 0 :: others ∧ (lineWith Transmitter.sending (queued (Body.release 3) 3 6 0 ::
      others)).line.transmitter = Transmitter.sending ∧ (queued (Body.release 3) 3 6 0).collisions < 7 ∧ others
      = [] ++ others ∧ (∀ w ∈ ([] : List QueuedFrame), isHalt w.frame = true) ∧ (∀ (w : QueuedFrame), others[0]?
      = some w → isHalt w.frame = false) ∧ (isDrive (queued (Body.release 3) 3 6 0).frame = true → ∀ w ∈ others,
      ¬(isDrive w.frame = true ∧ w.frame.target = (queued (Body.release 3) 3 6 0).frame.target))) ∧
    ((lineWith Transmitter.sending (queued Body.halt 3 0 0 :: (twoHalts ++ others))).line.queue = queued
      Body.halt 3 0 0 :: (twoHalts ++ others) ∧ (lineWith Transmitter.sending (queued Body.halt 3 0 0 ::
      (twoHalts ++ others))).line.transmitter = Transmitter.sending ∧ (queued Body.halt 3 0 0).collisions < 7 ∧
      twoHalts ++ others = twoHalts ++ others ∧ (∀ w ∈ twoHalts, isHalt w.frame = true) ∧ (∀ (w : QueuedFrame),
      others[0]? = some w → isHalt w.frame = false) ∧ (isDrive (queued Body.halt 3 0 0).frame = true → ∀ w ∈
      twoHalts ++ others, ¬(isDrive w.frame = true ∧ w.frame.target = (queued Body.halt 3 0 0).frame.target))) ∧
    ((lineWith Transmitter.sending [driveQueued 3 1 0]).line.queue = [driveQueued 3 1 0] ∧ (lineWith
      Transmitter.sending [driveQueued 3 1 0]).line.transmitter = Transmitter.sending ∧ (driveQueued 3 1
      0).collisions < 7 ∧ ([] : List QueuedFrame) = [] ++ [] ∧ (∀ w ∈ ([] : List QueuedFrame), isHalt w.frame =
      true) ∧ (∀ (w : QueuedFrame), ([] : List QueuedFrame)[0]? = some w → isHalt w.frame = false) ∧ (isDrive
      (driveQueued 3 1 0).frame = true → ∀ w ∈ ([] : List QueuedFrame), ¬(isDrive w.frame = true ∧
      w.frame.target = (driveQueued 3 1 0).frame.target))) ∧
    ((lineWith Transmitter.sending (driveQueued 3 1 0 :: (others ++ driveQueued 8 0 0 :: others))).line.queue =
      driveQueued 3 1 0 :: (others ++ driveQueued 8 0 0 :: others) ∧ (lineWith Transmitter.sending (driveQueued
      3 1 0 :: (others ++ driveQueued 8 0 0 :: others))).line.transmitter = Transmitter.sending ∧ (driveQueued 3
      1 0).collisions < 7 ∧ others ++ driveQueued 8 0 0 :: others = others ++ driveQueued 8 0 0 :: others ∧
      isDrive (driveQueued 3 1 0).frame = true ∧ isDrive (driveQueued 8 0 0).frame = true ∧ (driveQueued 8 0
      0).frame.target = (driveQueued 3 1 0).frame.target ∧ (∀ w ∈ others, ¬(isDrive w.frame = true ∧
      w.frame.target = (driveQueued 3 1 0).frame.target)) ∧ others ++ others = [] ++ (others ++ others) ∧ (∀ w ∈
      ([] : List QueuedFrame), isHalt w.frame = true) ∧ (∀ (w : QueuedFrame), (others ++ others)[0]? = some w →
      isHalt w.frame = false)) ∧
    ((lineWith Transmitter.sending (driveQueued 3 1 0 :: (twoHalts ++ driveQueued 8 0 0 :: others))).line.queue
      = driveQueued 3 1 0 :: (twoHalts ++ driveQueued 8 0 0 :: others) ∧ (lineWith Transmitter.sending
      (driveQueued 3 1 0 :: (twoHalts ++ driveQueued 8 0 0 :: others))).line.transmitter = Transmitter.sending ∧
      (driveQueued 3 1 0).collisions < 7 ∧ twoHalts ++ driveQueued 8 0 0 :: others = twoHalts ++ driveQueued 8 0
      0 :: others ∧ isDrive (driveQueued 3 1 0).frame = true ∧ isDrive (driveQueued 8 0 0).frame = true ∧
      (driveQueued 8 0 0).frame.target = (driveQueued 3 1 0).frame.target ∧ (∀ w ∈ twoHalts, ¬(isDrive w.frame =
      true ∧ w.frame.target = (driveQueued 3 1 0).frame.target)) ∧ twoHalts ++ others = twoHalts ++ others ∧ (∀
      w ∈ twoHalts, isHalt w.frame = true) ∧ (∀ (w : QueuedFrame), others[0]? = some w → isHalt w.frame =
      false)) ∧
    ((lineWith Transmitter.backoff (queued (Body.release 3) 3 7 9 :: twoHalts)).line.queue = queued
      (Body.release 3) 3 7 9 :: twoHalts ∧ (lineWith Transmitter.backoff (queued (Body.release 3) 3 7 9 ::
      twoHalts)).line.transmitter = Transmitter.backoff) ∧
    ((lineWith Transmitter.backoff [queued (Body.release 3) 3 7 9]).line.queue = [queued (Body.release 3) 3 7 9]
      ∧ (lineWith Transmitter.backoff [queued (Body.release 3) 3 7 9]).line.transmitter = Transmitter.backoff) ∧
    ((lineWith Transmitter.sending (queued (Body.release 3) 3 0 0 :: others)).line.queue = queued (Body.release
      3) 3 0 0 :: others ∧ (lineWith Transmitter.sending (queued (Body.release 3) 3 0 0 ::
      others)).line.transmitter = Transmitter.sending ∧ (lineWith Transmitter.sending (queued (Body.release 3) 3
      0 0 :: others)).frameGone (queued (Body.release 3) 3 0 0) others (after .frameSent (lineWith
      Transmitter.sending (queued (Body.release 3) 3 0 0 :: others)))) ∧
    ((lineWith Transmitter.sending (queued (Body.release 3) 3 7 0 :: others)).line.queue = queued (Body.release
      3) 3 7 0 :: others ∧ (lineWith Transmitter.sending (queued (Body.release 3) 3 7 0 ::
      others)).line.transmitter = Transmitter.sending ∧ (lineWith Transmitter.sending (queued (Body.release 3) 3
      7 0 :: others)).frameGone (queued (Body.release 3) 3 7 0) others (after .frameSent (lineWith
      Transmitter.sending (queued (Body.release 3) 3 7 0 :: others))) ∧ 7 ≤ (queued (Body.release 3) 3 7
      0).collisions) ∧
    ((lineWith Transmitter.sending [queued (Body.release 3) 3 0 0]).line.queue = [queued (Body.release 3) 3 0 0]
      ∧ (lineWith Transmitter.sending [queued (Body.release 3) 3 0 0]).line.transmitter = Transmitter.sending ∧
      (lineWith Transmitter.sending [queued (Body.release 3) 3 0 0]).frameGone (queued (Body.release 3) 3 0 0)
      [] (after .frameSent (lineWith Transmitter.sending [queued (Body.release 3) 3 0 0]))) ∧
    ((lineSending senderWait Transmitter.sending (queued (Body.segment 77 254 0 [1#16]) 51 0 0 ::
      others)).line.queue = queued (Body.segment 77 254 0 [1#16]) 51 0 0 :: others ∧ (lineSending senderWait
      Transmitter.sending (queued (Body.segment 77 254 0 [1#16]) 51 0 0 :: others)).line.transmitter =
      Transmitter.sending ∧ (lineSending senderWait Transmitter.sending (queued (Body.segment 77 254 0 [1#16])
      51 0 0 :: others)).frameGone (queued (Body.segment 77 254 0 [1#16]) 51 0 0) others (after .frameSent
      (lineSending senderWait Transmitter.sending (queued (Body.segment 77 254 0 [1#16]) 51 0 0 :: others)))) ∧
    ((lineSending senderMidway Transmitter.sending (queued (Body.segment 77 254 0 [1#16]) 51 0 0 ::
      others)).line.queue = queued (Body.segment 77 254 0 [1#16]) 51 0 0 :: others ∧ (lineSending senderMidway
      Transmitter.sending (queued (Body.segment 77 254 0 [1#16]) 51 0 0 :: others)).line.transmitter =
      Transmitter.sending ∧ (lineSending senderMidway Transmitter.sending (queued (Body.segment 77 254 0 [1#16])
      51 0 0 :: others)).frameGone (queued (Body.segment 77 254 0 [1#16]) 51 0 0) others (after .frameSent
      (lineSending senderMidway Transmitter.sending (queued (Body.segment 77 254 0 [1#16]) 51 0 0 :: others)))) ∧
    ((lineSending senderLast Transmitter.sending (queued (Body.segment 77 254 0 [1#16]) 51 7 0 ::
      others)).line.queue = queued (Body.segment 77 254 0 [1#16]) 51 7 0 :: others ∧ (lineSending senderLast
      Transmitter.sending (queued (Body.segment 77 254 0 [1#16]) 51 7 0 :: others)).line.transmitter =
      Transmitter.sending ∧ (lineSending senderLast Transmitter.sending (queued (Body.segment 77 254 0 [1#16])
      51 7 0 :: others)).frameGone (queued (Body.segment 77 254 0 [1#16]) 51 7 0) others (after .frameSent
      (lineSending senderLast Transmitter.sending (queued (Body.segment 77 254 0 [1#16]) 51 7 0 :: others))) ∧ 7
      ≤ (queued (Body.segment 77 254 0 [1#16]) 51 7 0).collisions) :=
  ⟨⟨rfl, rfl⟩, ⟨rfl, rfl⟩, ⟨rfl, rfl⟩, ⟨rfl, rfl, by decide, rfl, by decide⟩, ⟨rfl, rfl, by decide, by decide⟩,
    ⟨rfl, rfl, by decide, by decide⟩, ⟨rfl, rfl, by decide, by decide⟩, ⟨rfl, rfl, by decide, rfl, by decide⟩,
    ⟨rfl, rfl, by decide, rfl, by decide⟩, ⟨rfl, rfl, by decide, by decide⟩, ⟨rfl, by decide⟩, ⟨rfl, rfl,
    by decide, rfl, by decide, by decide, by decide⟩, ⟨rfl, rfl, by decide, rfl, by decide, by decide,
    by decide⟩, ⟨rfl, rfl, by decide, rfl, by decide, by decide, by decide⟩, ⟨rfl, rfl, by decide, rfl, rfl,
    rfl, rfl, by decide, rfl, by decide, by decide⟩, ⟨rfl, rfl, by decide, rfl, rfl, rfl, rfl, by decide, rfl,
    by decide, by decide⟩, ⟨rfl, rfl⟩, ⟨rfl, rfl⟩, ⟨rfl, rfl, .inl ⟨.inl rfl, rfl⟩⟩, ⟨rfl, rfl, .inl ⟨.inl rfl,
    rfl⟩, by decide⟩, ⟨rfl, rfl, .inl ⟨.inl rfl, rfl⟩⟩, ⟨rfl, rfl, .inr ⟨rfl, _, _, _, rfl, rfl, rfl, .inl
    ⟨by decide, rfl⟩⟩⟩, ⟨rfl, rfl, .inr ⟨rfl, _, _, _, rfl, rfl, rfl, .inr (.inl ⟨rfl, by decide, by decide,
    rfl, rfl, by decide, rfl⟩)⟩⟩, ⟨rfl, rfl, .inr ⟨rfl, _, _, _, rfl, rfl, rfl, .inr (.inr ⟨rfl, by decide,
    by decide, rfl, rfl, by decide, by decide, rfl⟩)⟩, by decide⟩⟩

theorem witness_CompleteFrameJudged :
    Line.receive [true, true] (quietStation (Blocks.chair (chairWith engineIdle)) laterBeacon).line =
      (heardLine19, none) ∧
    (Line.receive badLevels (quietStation (Blocks.chair (chairWith engineIdle)) laterBeacon).line = (heardLine
      laterBeacon, some badBytes) ∧ judgeFrame badBytes = none) ∧
    (Line.receive (frameLevels ownFrame) (quietStation (Blocks.chair (chairWith engineIdle)) laterBeacon).line =
      (heardLine laterBeacon, some (frameBytes ownFrame)) ∧ judgeFrame (frameBytes ownFrame) = some ownFrame ∧
      (quietStation (Blocks.chair (chairWith engineIdle)) laterBeacon).station ≠ StationState.listen) ∧
    (Line.receive (frameLevels grantFrame) (inStation .setup (quietStation (Blocks.chair (chairWith engineIdle))
      laterBeacon)).line = (heardLine laterBeacon, some (frameBytes grantFrame)) ∧ judgeFrame (frameBytes
      grantFrame) = some grantFrame ∧ (inStation .setup (quietStation (Blocks.chair (chairWith engineIdle))
      laterBeacon)).station = StationState.setup) ∧
    (Line.receive (frameLevels grantFrame) (inStation .listen (quietStation (Blocks.chair (chairWith
      engineIdle)) laterBeacon)).line = (heardLine laterBeacon, some (frameBytes grantFrame)) ∧ judgeFrame
      (frameBytes grantFrame) = some grantFrame ∧ (inStation .listen (quietStation (Blocks.chair (chairWith
      engineIdle)) laterBeacon)).station = StationState.listen ∧ grantFrame.source ≠ (inStation .listen
      (quietStation (Blocks.chair (chairWith engineIdle)) laterBeacon)).config.station) ∧
    (Line.receive (frameLevels ownFrame) (inStation .listen (quietStation (Blocks.chair (chairWith engineIdle))
      laterBeacon)).line = (heardLine laterBeacon, some (frameBytes ownFrame)) ∧ judgeFrame (frameBytes
      ownFrame) = some ownFrame ∧ (inStation .listen (quietStation (Blocks.chair (chairWith engineIdle))
      laterBeacon)).station = StationState.listen ∧ ownFrame.source = (inStation .listen (quietStation
      (Blocks.chair (chairWith engineIdle)) laterBeacon)).config.station ∧ (inStation .listen (quietStation
      (Blocks.chair (chairWith engineIdle)) laterBeacon)).blocks = Blocks.chair (chairWith engineIdle)) ∧
    (Line.receive (frameLevels ownFrame) (inStation .listen (quietStation (Blocks.machine machineHalted)
      laterBeacon)).line = (heardLine laterBeacon, some (frameBytes ownFrame)) ∧ judgeFrame (frameBytes
      ownFrame) = some ownFrame ∧ (inStation .listen (quietStation (Blocks.machine machineHalted)
      laterBeacon)).station = StationState.listen ∧ ownFrame.source = (inStation .listen (quietStation
      (Blocks.machine machineHalted) laterBeacon)).config.station ∧ (inStation .listen (quietStation
      (Blocks.machine machineHalted) laterBeacon)).blocks = Blocks.machine machineHalted) ∧
    (Line.receive (frameLevels ownFrame) (quietStation (Blocks.chair (chairWith engineIdle)) laterBeacon).line =
      (heardLine laterBeacon, some (frameBytes ownFrame)) ∧ judgeFrame (frameBytes ownFrame) = some ownFrame ∧
      (quietStation (Blocks.chair (chairWith engineIdle)) laterBeacon).station = StationState.online ∧
      ownFrame.source = (quietStation (Blocks.chair (chairWith engineIdle)) laterBeacon).config.station) ∧
    (Line.receive (frameLevels segmentFrame) (quietStation (Blocks.chair (chairWith engineIdle))
      laterBeacon).line = (heardLine laterBeacon, some (frameBytes segmentFrame)) ∧ judgeFrame (frameBytes
      segmentFrame) = some segmentFrame ∧ (quietStation (Blocks.chair (chairWith engineIdle))
      laterBeacon).station = StationState.online ∧ segmentFrame.source ≠ (quietStation (Blocks.chair (chairWith
      engineIdle)) laterBeacon).config.station ∧ (¬State.keepsFrame segmentFrame (quietStation (Blocks.chair
      (chairWith engineIdle)) laterBeacon))) ∧
    (Line.receive (frameLevels grantFrame) (quietStation (Blocks.chair (chairWith engineIdle)) eightFrames).line
      = (heardLine eightFrames, some (frameBytes grantFrame)) ∧ judgeFrame (frameBytes grantFrame) = some
      grantFrame ∧ (quietStation (Blocks.chair (chairWith engineIdle)) eightFrames).station =
      StationState.online ∧ grantFrame.source ≠ (quietStation (Blocks.chair (chairWith engineIdle))
      eightFrames).config.station ∧ State.keepsFrame grantFrame (quietStation (Blocks.chair (chairWith
      engineIdle)) eightFrames) ∧ 8 ≤ (quietStation (Blocks.chair (chairWith engineIdle))
      eightFrames).line.fifo.length) ∧
    (Line.receive (frameLevels grantFrame) (quietStation (Blocks.chair (chairWith engineIdle)) fiveFrames).line
      = (heardLine fiveFrames, some (frameBytes grantFrame)) ∧ judgeFrame (frameBytes grantFrame) = some
      grantFrame ∧ (quietStation (Blocks.chair (chairWith engineIdle)) fiveFrames).station = StationState.online
      ∧ grantFrame.source ≠ (quietStation (Blocks.chair (chairWith engineIdle)) fiveFrames).config.station ∧
      State.keepsFrame grantFrame (quietStation (Blocks.chair (chairWith engineIdle)) fiveFrames) ∧
      (quietStation (Blocks.chair (chairWith engineIdle)) fiveFrames).line.fifo.length < 8 ∧ (∀ (c :
      ChairBlocks) (a : ActiveTransfer) (r : Receiver), (quietStation (Blocks.chair (chairWith engineIdle))
      fiveFrames).blocks = Blocks.chair c → c.engine.active = some a → a.side = Side.receiver r → r.pressure =
      true ∨ (quietStation (Blocks.chair (chairWith engineIdle)) fiveFrames).line.fifo.length < 5)) ∧
    (Line.receive (frameLevels beaconFrame9) (quietStation (Blocks.chair (chairWith engineIdle))
      laterBeacon).line = (heardLine laterBeacon, some (frameBytes beaconFrame9)) ∧ judgeFrame (frameBytes
      beaconFrame9) = some beaconFrame9 ∧ (quietStation (Blocks.chair (chairWith engineIdle))
      laterBeacon).station = StationState.online ∧ beaconFrame9.source ≠ (quietStation (Blocks.chair (chairWith
      engineIdle)) laterBeacon).config.station ∧ State.keepsFrame beaconFrame9 (quietStation (Blocks.chair
      (chairWith engineIdle)) laterBeacon) ∧ (quietStation (Blocks.chair (chairWith engineIdle))
      laterBeacon).line.fifo.length < 8 ∧ (∀ (c : ChairBlocks) (a : ActiveTransfer) (r : Receiver),
      (quietStation (Blocks.chair (chairWith engineIdle)) laterBeacon).blocks = Blocks.chair c → c.engine.active
      = some a → a.side = Side.receiver r → r.pressure = true ∨ (quietStation (Blocks.chair (chairWith
      engineIdle)) laterBeacon).line.fifo.length < 5)) ∧
    (Line.receive (frameLevels segmentFrame) (quietStation (Blocks.chair (chairReceiving receiverRun))
      laterBeacon).line = (heardLine laterBeacon, some (frameBytes segmentFrame)) ∧ judgeFrame (frameBytes
      segmentFrame) = some segmentFrame ∧ (quietStation (Blocks.chair (chairReceiving receiverRun))
      laterBeacon).station = StationState.online ∧ segmentFrame.source ≠ (quietStation (Blocks.chair
      (chairReceiving receiverRun)) laterBeacon).config.station ∧ State.keepsFrame segmentFrame (quietStation
      (Blocks.chair (chairReceiving receiverRun)) laterBeacon) ∧ (quietStation (Blocks.chair (chairReceiving
      receiverRun)) laterBeacon).line.fifo.length < 8 ∧ (∀ (c : ChairBlocks) (a : ActiveTransfer) (r :
      Receiver), (quietStation (Blocks.chair (chairReceiving receiverRun)) laterBeacon).blocks = Blocks.chair c
      → c.engine.active = some a → a.side = Side.receiver r → r.pressure = true ∨ (quietStation (Blocks.chair
      (chairReceiving receiverRun)) laterBeacon).line.fifo.length < 5)) ∧
    (Line.receive (frameLevels segmentFrame) (quietStation (Blocks.chair (chairReceiving receiverRun))
      fiveFrames).line = (heardLine fiveFrames, some (frameBytes segmentFrame)) ∧ judgeFrame (frameBytes
      segmentFrame) = some segmentFrame ∧ (quietStation (Blocks.chair (chairReceiving receiverRun))
      fiveFrames).station = StationState.online ∧ segmentFrame.source ≠ (quietStation (Blocks.chair
      (chairReceiving receiverRun)) fiveFrames).config.station ∧ State.keepsFrame segmentFrame (quietStation
      (Blocks.chair (chairReceiving receiverRun)) fiveFrames) ∧ (quietStation (Blocks.chair (chairReceiving
      receiverRun)) fiveFrames).line.fifo.length < 8 ∧ (quietStation (Blocks.chair (chairReceiving receiverRun))
      fiveFrames).blocks = Blocks.chair (chairReceiving receiverRun) ∧ (chairReceiving
      receiverRun).engine.active = some (receivingWork receiverRun) ∧ (receivingWork receiverRun).side =
      Side.receiver receiverRun ∧ receiverRun.pressure = false ∧ 5 ≤ (quietStation (Blocks.chair (chairReceiving
      receiverRun)) fiveFrames).line.fifo.length ∧ receiverRun.state = ReceiveState.run) ∧
    (Line.receive (frameLevels grantFrame) (quietStation (Blocks.chair (chairReceiving receiverCheck))
      fiveFrames).line = (heardLine fiveFrames, some (frameBytes grantFrame)) ∧ judgeFrame (frameBytes
      grantFrame) = some grantFrame ∧ (quietStation (Blocks.chair (chairReceiving receiverCheck))
      fiveFrames).station = StationState.online ∧ grantFrame.source ≠ (quietStation (Blocks.chair
      (chairReceiving receiverCheck)) fiveFrames).config.station ∧ State.keepsFrame grantFrame (quietStation
      (Blocks.chair (chairReceiving receiverCheck)) fiveFrames) ∧ (quietStation (Blocks.chair (chairReceiving
      receiverCheck)) fiveFrames).line.fifo.length < 8 ∧ (quietStation (Blocks.chair (chairReceiving
      receiverCheck)) fiveFrames).blocks = Blocks.chair (chairReceiving receiverCheck) ∧ (chairReceiving
      receiverCheck).engine.active = some (receivingWork receiverCheck) ∧ (receivingWork receiverCheck).side =
      Side.receiver receiverCheck ∧ receiverCheck.pressure = false ∧ 5 ≤ (quietStation (Blocks.chair
      (chairReceiving receiverCheck)) fiveFrames).line.fifo.length ∧ receiverCheck.state ≠ ReceiveState.run) ∧
    (Line.receive (frameLevels witnessFrame) (quietStation (Blocks.machine (machineIn (.transfer transfer77)))
      laterBeacon).line = (heardLine laterBeacon, some (frameBytes witnessFrame)) ∧ judgeFrame (frameBytes
      witnessFrame) = some witnessFrame ∧ (quietStation (Blocks.machine (machineIn (.transfer transfer77)))
      laterBeacon).station = StationState.online ∧ witnessFrame.source ≠ (quietStation (Blocks.machine
      (machineIn (.transfer transfer77))) laterBeacon).config.station ∧ State.keepsFrame witnessFrame
      (quietStation (Blocks.machine (machineIn (.transfer transfer77))) laterBeacon) ∧ (quietStation
      (Blocks.machine (machineIn (.transfer transfer77))) laterBeacon).line.fifo.length < 8 ∧ (∀ (c :
      ChairBlocks) (a : ActiveTransfer) (r : Receiver), (quietStation (Blocks.machine (machineIn (.transfer
      transfer77))) laterBeacon).blocks = Blocks.chair c → c.engine.active = some a → a.side = Side.receiver r →
      r.pressure = true ∨ (quietStation (Blocks.machine (machineIn (.transfer transfer77)))
      laterBeacon).line.fifo.length < 5)) ∧
    (Line.receive (frameLevels releaseFrame) (quietStation (Blocks.machine (machineIn .bound)) laterBeacon).line
      = (heardLine laterBeacon, some (frameBytes releaseFrame)) ∧ judgeFrame (frameBytes releaseFrame) = some
      releaseFrame ∧ (quietStation (Blocks.machine (machineIn .bound)) laterBeacon).station =
      StationState.online ∧ releaseFrame.source ≠ (quietStation (Blocks.machine (machineIn .bound))
      laterBeacon).config.station ∧ State.keepsFrame releaseFrame (quietStation (Blocks.machine (machineIn
      .bound)) laterBeacon) ∧ (quietStation (Blocks.machine (machineIn .bound)) laterBeacon).line.fifo.length <
      8 ∧ (∀ (c : ChairBlocks) (a : ActiveTransfer) (r : Receiver), (quietStation (Blocks.machine (machineIn
      .bound)) laterBeacon).blocks = Blocks.chair c → c.engine.active = some a → a.side = Side.receiver r →
      r.pressure = true ∨ (quietStation (Blocks.machine (machineIn .bound)) laterBeacon).line.fifo.length < 5)) :=
  ⟨rfl, ⟨rfl, rfl⟩, ⟨rfl, rfl, by decide⟩, ⟨rfl, rfl, rfl⟩, ⟨rfl, rfl, rfl, by decide⟩, ⟨rfl, rfl, rfl, rfl,
    rfl⟩, ⟨rfl, rfl, rfl, rfl, rfl⟩, ⟨rfl, rfl, rfl, rfl⟩, ⟨rfl, rfl, rfl, by decide, segmentFrame_not_kept⟩,
    ⟨rfl, rfl, rfl, by decide, .inr ⟨_, rfl, .inl (by decide)⟩, by decide⟩, ⟨rfl, rfl, rfl, by decide, .inr ⟨_,
    rfl, .inl (by decide)⟩, by decide, (by intro c a r h k; cases h; cases k)⟩, ⟨rfl, rfl, rfl, by decide, .inr
    ⟨_, rfl, .inl (by decide)⟩, by decide, (by intro c a r h k; cases h; cases k)⟩, ⟨rfl, rfl, rfl, by decide,
    .inr ⟨_, rfl, .inr (.inr (.inl ⟨_, rfl, rfl, rfl⟩))⟩, by decide,
    (by intro c a r h k; cases h; cases k; intro _; exact .inr (by decide))⟩, ⟨rfl, rfl, rfl, by decide, .inr
    ⟨_, rfl, .inr (.inr (.inl ⟨_, rfl, rfl, rfl⟩))⟩, by decide, rfl, rfl, rfl, rfl, by decide, rfl⟩, ⟨rfl, rfl,
    rfl, by decide, .inr ⟨_, rfl, .inl (by decide)⟩, by decide, rfl, rfl, rfl, rfl, by decide, by decide⟩, ⟨rfl,
    rfl, rfl, by decide, .inl ⟨_, rfl, .inr ⟨_, rfl, rfl, rfl⟩⟩, by decide,
    (by intro a r h; cases h; intro h; cases h)⟩, ⟨rfl, rfl, rfl, by decide, .inl ⟨_, rfl, .inl ⟨.inl rfl,
    rfl⟩⟩, by decide, (by intro a r h; cases h; intro h; cases h)⟩⟩

theorem witness_FrameReadsBackFromItsBytes :
    (⟨1, 63, .segment 255 1 376 [1, 2, 3, 4, 5, 6, 7, 8]⟩ : Frame).sendable = true ∧
    (⟨60, 1, .openTransfer 1 60 1 384⟩ : Frame).sendable = true ∧
    ((⟨1, 63, .segment 255 1 376 [1, 2, 3, 4, 5, 6, 7, 8]⟩ : Frame).sendable = true ∧ quietLine8.assembly = none
      ∧ 8 ≤ quietLine8.quiet) :=
  ⟨rfl, rfl, ⟨rfl, rfl, by decide⟩⟩

theorem witness_ConfigurationAndTableMoveOnlyBy :
    (exec (.setStation [60]) (inStation .setup (chairHeard (chairWith engineIdle) 9 7 .halt)) = .next (after
      (.setStation [60]) (inStation .setup (chairHeard (chairWith engineIdle) 9 7 .halt))) ∧ Instr.setStation
      [60] ≠ Instr.hardReset ∧ (after (.setStation [60]) (inStation .setup (chairHeard (chairWith engineIdle) 9
      7 .halt))).config ≠ (inStation .setup (chairHeard (chairWith engineIdle) 9 7 .halt)).config) ∧
    (exec (.zoneWrite [0, 0, 3, 0, 0, 0, 0]) (chairHeard (chairWith engineIdle) 9 7 .halt) = .next (after
      (.zoneWrite [0, 0, 3, 0, 0, 0, 0]) (chairHeard (chairWith engineIdle) 9 7 .halt)) ∧ Instr.zoneWrite [0, 0,
      3, 0, 0, 0, 0] ≠ Instr.hardReset ∧ (after (.zoneWrite [0, 0, 3, 0, 0, 0, 0]) (chairHeard (chairWith
      engineIdle) 9 7 .halt)).zones.table ≠ (chairHeard (chairWith engineIdle) 9 7 .halt).zones.table) :=
  ⟨⟨rfl, by decide, by decide⟩, ⟨rfl, by decide, by decide⟩⟩

theorem witness_HaltLatchAndEpochMoveOnlyBy :
    (exec .halt (machineHeard .bound 31 .halt) = .next (after .halt (machineHeard .bound 31 .halt)) ∧
      (machineHeard .bound 31 .halt).halted = false ∧ (after .halt (machineHeard .bound 31 .halt)).halted =
      true) ∧
    (exec (.localResume []) (haltedHeard .halt) = .next (after (.localResume []) (haltedHeard .halt)) ∧
      (haltedHeard .halt).halted = true ∧ (after (.localResume []) (haltedHeard .halt)).halted = false) ∧
    (exec .ask (machineHeard .unbound 50 (.ask termsA)) = .next (after .ask (machineHeard .unbound 50 (.ask
      termsA))) ∧ (machineHeard .unbound 50 (.ask termsA)).epoch = some 65535 ∧ (after .ask (machineHeard
      .unbound 50 (.ask termsA))).epoch = some 1 ∧ 1 ≠ 65535) :=
  ⟨⟨rfl, rfl, rfl⟩, ⟨rfl, rfl, rfl⟩, ⟨rfl, rfl, rfl, by decide⟩⟩

end Sys2Proof.Tests
end

section
/-!
Machine binding: the frames a MACHINE takes from its controller at the current epoch (R4, R16, R22, R23, R26),
and the obligation on ADMIT, DRIVE, YIELD and the stale frames.
-/
namespace Sys2Proof.Machine

/-! ### The frame that is from the controller at the current epoch, and the one that is not (R4) -/

theorem standing_iff (b : BindingState) : standing b = true ↔ b = .unbound ∨ b = .orphaned := by
  cases b <;> simp [standing]

theorem fromController_eq_false_iff (b : Binding) (source epoch : Nat) :
    fromController b source epoch = false
      ↔ source ≠ b.controller ∨ epoch ≠ b.epoch ∨ b.state = .unbound ∨ b.state = .orphaned := by
  simp only [fromController, Bool.and_eq_false_iff, decide_eq_false_iff_not, Bool.not_eq_false', standing_iff,
    or_assoc, ne_eq]

theorem MachineView.ifController_current {source epoch : Nat} {v : MachineView}
    (h : fromController v.binding source epoch = true) (rule : MachineView → MachineView) :
    v.ifController source epoch rule = rule v :=
  if_pos h

theorem MachineView.ifController_stale {source epoch : Nat} {v : MachineView}
    (h : fromController v.binding source epoch = false) (rule : MachineView → MachineView) :
    v.ifController source epoch rule = v :=
  if_neg (by simp [h])

/-! ### The rows of those frames, each as its rule on the station with the frame gone -/

section
variable {s : State} {m : MachineBlocks} {f : Frame} {rest : List Frame} {e : Nat}

theorem exec_yield_taken (h : s.machineHears m f rest) {l : Nat} (hb : f.body = .yield e l) :
    exec .yield s = .next (MachineView.ifController f.source e (MachineView.controllerYield l)
      ⟨s.takeHead rest, m⟩).close :=
  congrArg Host.Outcome.next (takeOnMachine_taken h (by simp only [hb]))

theorem exec_decline_taken (h : s.machineHears m f rest) (hb : f.body = .decline e) :
    exec .decline s = .next (MachineView.ifController f.source e MachineView.controllerDecline
      ⟨s.takeHead rest, m⟩).close :=
  congrArg Host.Outcome.next (takeOnMachine_taken h (by simp only [hb]))

theorem exec_release_taken (h : s.machineHears m f rest) (hb : f.body = .release e) :
    exec .release s = .next (MachineView.ifController f.source e MachineView.controllerRelease
      ⟨s.takeHead rest, m⟩).close :=
  congrArg Host.Outcome.next (takeOnMachine_taken h (by simp only [hb]))

theorem exec_admitFrame_taken (h : s.machineHears m f rest) {t : Terms} (hb : f.body = .admission e t) :
    exec .admitFrame s = .next (MachineView.ifController f.source e (MachineView.controllerAdmit t)
      ⟨s.takeHead rest, m⟩).close :=
  congrArg Host.Outcome.next (takeOnMachine_taken h (by simp only [hb]))

theorem exec_drive_taken (h : s.machineHears m f rest) {q : Nat} {d : Setpoints}
    (hb : f.body = .drive e q d) :
    exec .drive s = .next (MachineView.ifController f.source e (fun v => v.resetting.acceptDemand q d)
      ⟨s.takeHead rest, m⟩).close :=
  congrArg Host.Outcome.next (takeOnMachine_taken h (by simp only [hb]))

theorem exec_resume_taken (h : s.machineHears m f rest) (hb : f.body = .resume e) :
    exec .resume s = .next (MachineView.ifController f.source e (fun v => v.resetting.clearLatch f.source)
      ⟨s.takeHead rest, m⟩).close :=
  congrArg Host.Outcome.next (takeOnMachine_taken h (by simp only [hb]))

/-- A machine whose blocks no rule has touched is put back as it stood. -/
theorem close_takeHead (h : s.machineHears m f rest) :
    (⟨s.takeHead rest, m⟩ : MachineView).close = s.takeHead rest := by
  obtain ⟨-, hm, -⟩ := h
  simp only [MachineView.close, State.takeHead, ← hm]

/-- A stale frame leaves the FIFO and does nothing else, whatever the rule for its kind (R4). -/
theorem close_ifController_stale (h : s.machineHears m f rest)
    (hstale : fromController m.binding f.source e = false) (rule : MachineView → MachineView) :
    (MachineView.ifController f.source e rule ⟨s.takeHead rest, m⟩).close = s.takeHead rest := by
  rw [MachineView.ifController_stale hstale, close_takeHead h]

end

/-! ### What those rules leave of the record and the gate (R16, R22, R23, R26, R65, R74) -/

theorem MachineView.close_resetting (t : State) (m : MachineBlocks) :
    (⟨t, m⟩ : MachineView).resetting.close
      = t.withMachine { m.binding with misses := 0, seen := true }
          (m.gate.recompute t.config { m.binding with misses := 0, seen := true }) := rfl

theorem MachineView.controllerYield_of_not_proposed {v : MachineView}
    (h : ∀ p, v.binding.state ≠ .proposed p) (l : Nat) : v.controllerYield l = v.resetting := by
  unfold MachineView.controllerYield
  split
  · next p hp => exact absurd hp (h p)
  · rfl

theorem MachineView.controllerAdmit_of_zone {v : MachineView} {t : Terms}
    (h : v.binding.machineZone = some t.zone) :
    v.controllerAdmit t = ({ v with binding := v.binding.admitTerms t } : MachineView).resetting :=
  if_pos h

theorem MachineView.controllerAdmit_of_other_zone {v : MachineView} {t : Terms}
    (h : v.binding.machineZone ≠ some t.zone) : v.controllerAdmit t = v.resetting :=
  if_neg h

/-- A recomputation that a new held demand and another recomputation follow leaves no trace. -/
theorem DriveGate.recompute_held_recompute (c : Configuration) (b b' : Binding) (g : DriveGate)
    (d : HeldDemand) :
    ({ g.recompute c b with held := d } : DriveGate).recompute c b'
      = ({ g with held := d } : DriveGate).recompute c b' := by
  have hramp : (g.ramp.map (Ramp.refresh c)).map (Ramp.refresh c) = g.ramp.map (Ramp.refresh c) := by
    cases g.ramp <;> rfl
  exact DriveGate.recompute_inputs c rfl rfl rfl rfl hramp rfl rfl rfl rfl rfl rfl

theorem MachineView.close_resetting_acceptDemand (t : State) (m : MachineBlocks) (q : Nat) (d : Setpoints) :
    ((⟨t, m⟩ : MachineView).resetting.acceptDemand q d).close
      = t.withMachine { m.binding with misses := 0, seen := true }
          (({ m.gate with held := ⟨d, some q, some t.time⟩ } : DriveGate).recompute t.config
            { m.binding with misses := 0, seen := true }) :=
  congrArg (t.withMachine _) (DriveGate.recompute_held_recompute ..)

/-! ### The obligation -/

/-- Settles O29: each row is its rule behind `MachineView.ifController`, which a stale frame does not pass; past
it every rule here counts toward the heartbeat, and DRIVE's second recomputation absorbs the first. -/
theorem admitDriveAndStaleFrames : Obligations.AdmitDriveAndStaleFrames := by
  refine ⟨fun e s m f rest h hc => ⟨?admitZone, ?admitOther, ?drive⟩, ?stale, ?yield⟩
  case admitZone =>
    intro t hb hz
    rw [exec_admitFrame_taken h hb, MachineView.ifController_current hc,
      MachineView.controllerAdmit_of_zone hz, MachineView.close_resetting]
    rfl
  case admitOther =>
    intro t hb hz
    rw [exec_admitFrame_taken h hb, MachineView.ifController_current hc,
      MachineView.controllerAdmit_of_other_zone hz, MachineView.close_resetting]
    rfl
  case drive =>
    intro q d hb
    rw [exec_drive_taken h hb, MachineView.ifController_current hc,
      MachineView.close_resetting_acceptDemand]
    rfl
  case stale =>
    intro c e s m f rest h hstale hkind
    have hignored := close_ifController_stale h ((fromController_eq_false_iff ..).2 hstale)
    rcases hkind with ⟨rfl, l, hb⟩ | ⟨rfl, hb⟩ | ⟨rfl, hb⟩ | ⟨rfl, t, hb⟩ | ⟨rfl, q, d, hb⟩ | ⟨rfl, hb⟩
    · rw [exec_yield_taken h hb, hignored]
    · rw [exec_decline_taken h hb, hignored]
    · rw [exec_release_taken h hb, hignored]
    · rw [exec_admitFrame_taken h hb, hignored]
    · rw [exec_drive_taken h hb, hignored]
    · rw [exec_resume_taken h hb, hignored]
  case yield =>
    intro e l s m f rest h hb hc hstate
    have hnot : ∀ p, m.binding.state ≠ .proposed p := by
      rcases hstate with hs | ⟨r, hs⟩ <;> simp [hs]
    rw [exec_yield_taken h hb, MachineView.ifController_current hc,
      MachineView.controllerYield_of_not_proposed hnot, MachineView.close_resetting]
    rfl

end Sys2Proof.Machine
end

section
/-!
Context transfer: a frame the active transfer's sender takes from its peer, and the obligation on HOLD (R42, R47).
-/
namespace Sys2Proof.Machine

/-! ### The active transfer with a sender (R43, R47) -/

theorem ChairView.atSender_active {v : ChairView} {a : ActiveTransfer} {r : Sender}
    (ha : v.engine.active = some a) (hr : a.side = .sender r)
    (rule : ActiveTransfer → Sender → ChairView → ChairView) :
    v.atSender a.number a.peer rule = rule a r v := by
  simp only [ChairView.atSender, ha, hr, and_self, if_true]

/-- Only a receiver has a pressure flag to clear: a sender takes no note of the depth left (R47). -/
theorem ChairView.fifoLeft_of_sender {v : ChairView} {a : ActiveTransfer} {r : Sender}
    (ha : v.engine.active = some a) (hr : a.side = .sender r) (depth : Nat) : v.fifoLeft depth = v := by
  simp only [ChairView.fifoLeft, ha, hr]

/-- A chair whose blocks no rule has touched is put back as it stood. -/
theorem ChairView.close_takeHead {s : State} {c : ChairBlocks} {f : Frame} {rest : List Frame}
    (h : s.chairHears c f rest) : (⟨s.takeHead rest, c⟩ : ChairView).close = s.takeHead rest := by
  obtain ⟨-, hc, -⟩ := h
  simp only [ChairView.close, State.takeHead, ← hc]

/-! ### HOLD at the sender (R42) -/

theorem ChairView.senderHold_running {a : ActiveTransfer} {r : Sender} {u : Nat} (hu : u = a.burst)
    (hrun : r.state = .run) (v : ChairView) :
    v.senderHold a r u = v.setActive (some { a with side := .sender { r with state := .paused } }) :=
  if_pos ⟨hu, hrun⟩

theorem ChairView.senderHold_ignored {a : ActiveTransfer} {r : Sender} {u : Nat}
    (h : u ≠ a.burst ∨ r.state ≠ .run) (v : ChairView) : v.senderHold a r u = v :=
  if_neg (not_and_or.2 h)

section
variable {s : State} {c : ChairBlocks} {f : Frame} {rest : List Frame} {a : ActiveTransfer} {r : Sender}
  {u : Nat}

/-- The row is the sender's rule, and then the depth the frame left behind. -/
theorem exec_hold_taken (h : s.chairHears c f rest) (ha : c.engine.active = some a)
    (hr : a.side = .sender r) (hf : f.source = a.peer) (hb : f.body = .hold a.number u) :
    exec .hold s
      = .next ((ChairView.senderHold a r u ⟨s.takeHead rest, c⟩).fifoLeft rest.length).close := by
  have htaken : exec .hold s
      = .next ((ChairView.atSender a.number f.source (fun a r v => v.senderHold a r u)
          ⟨s.takeHead rest, c⟩).fifoLeft rest.length).close :=
    congrArg Host.Outcome.next (takeOnChair_taken h (by simp only [hb]))
  rw [htaken, hf, ChairView.atSender_active ha hr]

theorem exec_hold_running (h : s.chairHears c f rest) (ha : c.engine.active = some a)
    (hr : a.side = .sender r) (hf : f.source = a.peer) (hb : f.body = .hold a.number u)
    (hu : u = a.burst) (hrun : r.state = .run) :
    exec .hold s
      = .next ((s.takeHead rest).withChair
          { c with engine := { c.engine with
              active := some { a with side := .sender { r with state := .paused } } } }) := by
  rw [exec_hold_taken h ha hr hf hb, ChairView.senderHold_running hu hrun,
    ChairView.fifoLeft_of_sender rfl rfl]
  rfl

theorem exec_hold_ignored (h : s.chairHears c f rest) (ha : c.engine.active = some a)
    (hr : a.side = .sender r) (hf : f.source = a.peer) (hb : f.body = .hold a.number u)
    (hother : u ≠ a.burst ∨ r.state ≠ .run) : exec .hold s = .next (s.takeHead rest) := by
  rw [exec_hold_taken h ha hr hf hb, ChairView.senderHold_ignored hother,
    ChairView.fifoLeft_of_sender ha hr, ChairView.close_takeHead h]

end

/-! ### The obligation -/

/-- Settles O47: the sender's rule has the two branches of R42, and the frame's leaving gives a sender nothing
to do. -/
theorem senderTakesHold : Obligations.SenderTakesHold := by
  refine fun u s c f rest a r h ha hr hf hb => ⟨?running, ?notRunning, ?otherBurst⟩
  case running => exact exec_hold_running h ha hr hf hb
  case notRunning =>
    intro _ hstate
    have hidle : r.state ≠ .run := by rcases hstate with hs | hs | hs <;> simp [hs]
    exact exec_hold_ignored h ha hr hf hb (.inr hidle)
  case otherBurst => exact fun hu => exec_hold_ignored h ha hr hf hb (.inl hu)

end Sys2Proof.Machine
end

section
/-!
The Drive Gate: what its five stages and its clamps give, case by case (R66, R67, R70, R71, R75, R76), and the
obligations on the reverse ceiling and on the effective ceiling with the outputs.
-/
namespace Sys2Proof.Machine

/-! ### The reverse ceiling (R71) -/

theorem reverseCeiling_full {c : Configuration} (hq : c.reverseRatio = 8) (e : Nat) :
    reverseCeiling c e = e := by
  rw [reverseCeiling, hq, Nat.mul_div_cancel e (by decide)]

theorem reverseCeiling_half {c : Configuration} (hq : c.reverseRatio = 4) (e : Nat) :
    reverseCeiling c e = e / 2 := by
  rw [reverseCeiling, hq]
  omega

theorem reverseCeiling_eq_zero_iff (c : Configuration) (e : Nat) :
    reverseCeiling c e = 0 ↔ e * c.reverseRatio < 8 :=
  Nat.div_eq_zero_iff_lt (by decide)

/-- Settles O20: a recomputation stores the reverse ceiling of its own effective ceiling, and that is 0 exactly
where the product is below 8. -/
theorem DriveGate.reverseCeiling : Obligations.ReverseCeiling := by
  refine ⟨fun c b g => (g.recompute_agrees c b).reverse, fun c e =>
    ⟨fun he hq => Nat.mul_le_mul he hq, fun hq => reverseCeiling_full hq e, fun hq => reverseCeiling_half hq e,
      (reverseCeiling_eq_zero_iff c e).2, ?sevenByOne, ?noCeiling⟩⟩
  case sevenByOne => exact fun he hq => (reverseCeiling_eq_zero_iff c e).2 (by simp [he, hq])
  case noCeiling => exact fun he => (reverseCeiling_eq_zero_iff c e).2 (by simp [he])

/-! ### The stop condition (R70, R76) -/

theorem stopCondition_iff (g : DriveGate) :
    stopCondition g = true ↔ g.halted = true ∨ g.stopActive = true ∨ g.combined.drive = false := by
  simp [stopCondition, or_assoc]

theorem stopCondition_eq_false_iff (g : DriveGate) :
    stopCondition g = false ↔ ¬ (g.halted = true ∨ g.stopActive = true ∨ g.combined.drive = false) := by
  rw [← stopCondition_iff, Bool.not_eq_true]

/-! ### The ceiling of a gate that agrees with its inputs (R66, R67, R70) -/

section
variable {c : Configuration} {b : Binding} {g : DriveGate}

/-- The machine zone limit read off the gate's own combined rights (R66). -/
theorem GateAgrees.zoneLimit_eq (h : GateAgrees c b g) :
    zoneLimit b = if b.zoneResult.fault = true ∨ g.combined.drive = false then 0 else b.zoneResult.limit := by
  simp [zoneLimit, h.combined]

/-- The guard of stage 4, as the binding state and the gate's stop condition (R70). -/
theorem GateAgrees.ceiling_guard (h : GateAgrees c b g) :
    (standing b.state || g.halted || g.stopActive
        || !(rightsInter b.admittedRights b.zoneResult.rights).drive)
      = (standing b.state || stopCondition g) := by
  rw [stopCondition, h.combined, Bool.or_assoc, Bool.or_assoc, Bool.or_assoc]

theorem GateAgrees.ceiling_of_standing_or_stopped (h : GateAgrees c b g)
    (hzero : standing b.state = true ∨ stopCondition g = true) : g.ceiling = 0 := by
  rw [h.ceiling, effectiveCeiling, h.ceiling_guard, if_pos (by simpa using hzero)]

theorem GateAgrees.ceiling_of_bound_or_proposed (h : GateAgrees c b g) (hrun : stopCondition g = false)
    (hstate : b.state = .bound ∨ ∃ p, b.state = .proposed p) : g.ceiling = degraded c.missLimit b := by
  rw [h.ceiling, effectiveCeiling, h.ceiling_guard, hrun]
  rcases hstate with hs | ⟨p, hs⟩ <;> simp [hs, standing]

theorem GateAgrees.ceiling_of_transfer (h : GateAgrees c b g) (hrun : stopCondition g = false)
    {r : TransferRecord} {q : Ramp} (hstate : b.state = .transfer r) (hramp : g.ramp = some q) :
    g.ceiling = min (degraded c.missLimit b) q.value := by
  rw [h.ceiling, effectiveCeiling, h.ceiling_guard, hrun]
  simp [hstate, hramp, standing]

end

/-! ### The speed output (R75) -/

section
variable {d : Setpoints} (e r : Nat)

theorem speedOut_of_stop (h : d.stop = true) : speedOut d e r = 0 := if_pos h

theorem speedOut_forward (h : d.stop = false) (hd : 0 ≤ d.speed) : speedOut d e r = min d.speed e := by
  simp [speedOut, h, hd]

theorem speedOut_reverse (h : d.stop = false) (hd : d.speed < 0) :
    speedOut d e r = -(min (-d.speed) (r : Int)) := by
  simp [speedOut, h, not_le.2 hd]

theorem speedOut_bounds : -(r : Int) ≤ speedOut d e r ∧ speedOut d e r ≤ e := by
  cases hstop : d.stop
  case true => rw [speedOut_of_stop e r hstop]; omega
  case false =>
    rcases le_or_gt 0 d.speed with hd | hd
    · rw [speedOut_forward e r hstop hd]; omega
    · rw [speedOut_reverse e r hstop hd]; omega

end

/-! ### The boom and bucket outputs (R76) -/

section
variable {g : DriveGate}

theorem boomOut_eq_zero (h : stopCondition g = true ∨ g.combined.load = false ∧ g.combined.tip = false) :
    boomOut g = 0 :=
  if_pos (by simpa using h)

theorem boomOut_eq_demand (hrun : stopCondition g = false)
    (h : g.combined.load = true ∨ g.combined.tip = true) : boomOut g = g.held.demand.boom :=
  if_neg (by simpa [hrun, or_iff_not_imp_left] using h)

theorem bucketOut_of_stopped (h : stopCondition g = true) : bucketOut g = 0 := if_pos h

theorem bucketOut_still (h : g.held.demand.bucket = 0) : bucketOut g = 0 := by simp [bucketOut, h]

theorem bucketOut_crowd (hrun : stopCondition g = false) (hd : 0 < g.held.demand.bucket) :
    bucketOut g = if g.combined.load then g.held.demand.bucket else 0 := by
  simp [bucketOut, hrun, hd]

theorem bucketOut_dump (hrun : stopCondition g = false) (hd : g.held.demand.bucket < 0) :
    bucketOut g = if g.combined.tip then g.held.demand.bucket else 0 := by
  simp [bucketOut, hrun, hd, not_lt.2 hd.le]

theorem bucketOut_eq_zero (h : stopCondition g = true ∨ g.held.demand.bucket = 0
      ∨ (0 < g.held.demand.bucket ∧ g.combined.load = false)
      ∨ (g.held.demand.bucket < 0 ∧ g.combined.tip = false)) : bucketOut g = 0 := by
  cases hrun : stopCondition g
  case true => exact bucketOut_of_stopped hrun
  case false =>
    rcases h with hstop | hd | ⟨hd, hload⟩ | ⟨hd, htip⟩
    · simp [hrun] at hstop
    · exact bucketOut_still hd
    · rw [bucketOut_crowd hrun hd, if_neg (by simp [hload])]
    · rw [bucketOut_dump hrun hd, if_neg (by simp [htip])]

theorem bucketOut_eq_demand (hrun : stopCondition g = false)
    (h : (0 < g.held.demand.bucket ∧ g.combined.load = true)
      ∨ (g.held.demand.bucket < 0 ∧ g.combined.tip = true)) : bucketOut g = g.held.demand.bucket := by
  rcases h with ⟨hd, hload⟩ | ⟨hd, htip⟩
  · rw [bucketOut_crowd hrun hd, if_pos hload]
  · rw [bucketOut_dump hrun hd, if_pos htip]

end

/-! ### The obligation -/

/-- Settles O21: a recomputed gate agrees with its inputs, so each clause is a case of its ceiling or of one of
its clamps, with the three stop conditions read as one. -/
theorem ceilingAndOutputs : Obligations.CeilingAndOutputs := by
  intro c b g0 g base bd d stopped
  have h : GateAgrees c b g := g0.recompute_agrees c b
  have hstop : stopped → stopCondition g = true := (stopCondition_iff g).2
  have hrun : ¬ stopped → stopCondition g = false := (stopCondition_eq_false_iff g).2
  have hdegraded : degraded c.missLimit b = bd := by
    rw [degraded, baseCeiling, h.zoneLimit_eq]
  rw [h.outputs]
  refine ⟨h.combined, ⟨?zero, ?bound, ?transfer⟩,
    ⟨?speedStopped, ?speedForward, ?speedReverse, ?speedBounds⟩,
    ⟨rfl, ?boomZero, ?boomDemand, ?bucketZero, ?bucketDemand⟩, h.driveEnable⟩
  case zero =>
    intro hz
    refine h.ceiling_of_standing_or_stopped ?_
    rw [standing_iff, or_assoc]
    exact hz.imp_right (.imp_right hstop)
  case bound =>
    intro hmove hstate
    rw [← hdegraded]
    exact h.ceiling_of_bound_or_proposed (hrun hmove) hstate
  case transfer =>
    intro hmove r q hstate hramp
    rw [← hdegraded]
    exact h.ceiling_of_transfer (hrun hmove) hstate hramp
  case speedStopped => exact speedOut_of_stop g.ceiling g.reverse
  case speedForward => exact speedOut_forward g.ceiling g.reverse
  case speedReverse => exact speedOut_reverse g.ceiling g.reverse
  case speedBounds => exact speedOut_bounds g.ceiling g.reverse
  case boomZero => exact fun hz => boomOut_eq_zero (hz.imp_left hstop)
  case boomDemand => exact fun hmove => boomOut_eq_demand (hrun hmove)
  case bucketZero => exact fun hz => bucketOut_eq_zero (hz.imp_left hstop)
  case bucketDemand => exact fun hmove => bucketOut_eq_demand (hrun hmove)

end Sys2Proof.Machine
end

section
/-!
A chair's host commands on seats: the seats and records a rule looks up, a command taken as its rule's answer, and
the obligations on HALT MACHINE and RESUME MACHINE (R110) and on SEAT YIELD, SEAT DECLINE and SEAT RELEASE (R99 to
R101).
-/
namespace Sys2Proof.Machine

/-! ### The seat a test finds (R86, R92) -/

/-- The seat indices in order are all of them, in their own order. -/
theorem seatOrder_eq : seatOrder = List.finRange 4 := rfl

theorem mem_seatOrder (i : Fin 4) : i ∈ seatOrder := List.mem_finRange i

theorem ChairView.findSeat_eq_none {v : ChairView} {p : Seat → Bool} :
    v.findSeat p = none ↔ ∀ i, p (v.seat i) = false :=
  List.find?_eq_none.trans
    ⟨fun h i => Bool.eq_false_iff.2 (h i (mem_seatOrder i)), fun h i _ => Bool.eq_false_iff.1 (h i)⟩

theorem ChairView.findSeat_eq_some {v : ChairView} {p : Seat → Bool} {i : Fin 4}
    (hi : p (v.seat i) = true) (hlow : ∀ j, j < i → p (v.seat j) = false) : v.findSeat p = some i := by
  unfold ChairView.findSeat
  rw [seatOrder_eq]
  refine List.find?_eq_some_iff_getElem.2 ⟨hi, i.val, ?_, ?_, fun j hj => ?_⟩
  · exact i.isLt.trans_eq List.length_finRange.symm
  · exact List.getElem_finRange _
  · rw [List.getElem_finRange, Bool.not_eq_true']
    exact hlow ⟨j, hj.trans i.isLt⟩ hj

section
variable {v : ChairView} {i : Fin 4} {x : Nat}

theorem ChairView.seatFor_of_seatOf (h : v.toChairBlocks.seatOf x i) : v.seatFor x = some i :=
  ChairView.findSeat_eq_some h.1 h.2

theorem ChairView.seatFor_eq_none : v.seatFor x = none ↔ v.toChairBlocks.unnamed x :=
  ChairView.findSeat_eq_none

theorem ChairView.freeSeat_of_firstFree (h : v.toChairBlocks.firstFree i) : v.freeSeat = some i :=
  ChairView.findSeat_eq_some (decide_eq_true h.1) fun j hj => decide_eq_false (h.2 j hj)

theorem ChairView.freeSeat_eq_none : v.freeSeat = none ↔ ∀ i, (v.seat i).state ≠ .free :=
  ChairView.findSeat_eq_none.trans (forall_congr' fun _ => decide_eq_false_iff_not)

/-- The seat found for a machine names it. -/
theorem ChairView.names_of_seatFor (h : v.seatFor x = some i) : (v.seat i).names x = true :=
  List.find?_some (p := fun j => (v.seat j).names x) h

theorem Seat.drives_iff (q : Seat) : q.drives = true ↔ q.state = .holding ∨ q.state = .sending :=
  decide_eq_true_iff

end

/-- The record found for a machine is that machine's. -/
theorem ChairBlocks.machine_of_recordOf {c : ChairBlocks} {x : Nat} {rec : FleetRecord}
    (h : c.recordOf x = some rec) : rec.machine = x :=
  of_decide_eq_true (List.find?_some (p := fun r : FleetRecord => decide (r.machine = x)) h)

theorem stationNumber_iff (x : Nat) : stationNumber x = true ↔ 1 ≤ x ∧ x ≤ 60 :=
  decide_eq_true_iff

theorem targetOk_iff (x : Nat) : targetOk x = true ↔ 1 ≤ x ∧ x ≤ 60 ∨ x = 63 := by
  unfold targetOk sourceOk
  simp [stationMost_eq, allStations_eq]

/-! ### A command taken as its rule's answer (R183, R188) -/

/-- The chair a command's rule finds: the command taken, the seize-armed record gone (R188). -/
def takenView (s : State) (c : ChairBlocks) : ChairView := ⟨s.commandTaken, { c with armed := none }⟩

/-- An answer with no data that leaves the chair as the command found it is a refusal's. -/
theorem finish_unchanged {s : State} {c : ChairBlocks} (h : s.chairOnline c) (code : ResponseCode) :
    finish (closeChair (chairAnswer code (takenView s c))) = s.commandTaken.respond code [] := by
  obtain ⟨-, hc⟩ := h
  have hclose : (takenView s c).close = s.commandTaken := by
    unfold ChairView.close takenView State.commandTaken
    rw [hc, disarm_chair]
  exact congrArg (State.respond code []) hclose

section
variable {s : State} {c : ChairBlocks} {ps : List Byte}

theorem exec_haltMachine_taken (h : s.chairOnline c) (hn : 1 ≤ ps.length) :
    exec (.haltMachine ps) s
      = .next (finish (closeChair ((takenView s c).haltMachine (param ps 0)))) :=
  congrArg Host.Outcome.next (chairCommand_taken h hn _)

theorem exec_resumeMachine_taken (h : s.chairOnline c) (hn : 1 ≤ ps.length) :
    exec (.resumeMachine ps) s
      = .next (finish (closeChair ((takenView s c).resumeMachine (param ps 0)))) :=
  congrArg Host.Outcome.next (chairCommand_taken h hn _)

theorem exec_seatYield_taken (h : s.chairOnline c) (hn : 1 ≤ ps.length) (hi : param ps 0 ≤ 3) :
    exec (.seatYield ps) s
      = .next (finish (closeChair ((takenView s c).seatYield (paramSeat ps)))) :=
  congrArg Host.Outcome.next (seatCommand_taken h hn hi _)

theorem exec_seatDecline_taken (h : s.chairOnline c) (hn : 1 ≤ ps.length) (hi : param ps 0 ≤ 3) :
    exec (.seatDecline ps) s
      = .next (finish (closeChair ((takenView s c).seatDecline (paramSeat ps)))) :=
  congrArg Host.Outcome.next (seatCommand_taken h hn hi _)

theorem exec_seatRelease_taken (h : s.chairOnline c) (hn : 1 ≤ ps.length) (hi : param ps 0 ≤ 3) :
    exec (.seatRelease ps) s
      = .next (finish (closeChair ((takenView s c).seatRelease (paramSeat ps)))) :=
  congrArg Host.Outcome.next (seatCommand_taken h hn hi _)

end

/-! ### HALT MACHINE and RESUME MACHINE (R110) -/

section
variable {v : ChairView} {x : Nat} {i : Fin 4}

theorem ChairView.haltMachine_ok (h : targetOk x = true) :
    v.haltMachine x = chairAnswer .ok (v.sendTo x .halt) :=
  if_pos h

theorem ChairView.haltMachine_badParameter (h : ¬ targetOk x = true) :
    v.haltMachine x = chairAnswer .badParameter v :=
  if_neg h

theorem ChairView.resumeMachine_ok (hi : v.seatFor x = some i) (hd : (v.seat i).drives = true) :
    v.resumeMachine x = chairAnswer .ok (v.sendTo x (.resume (v.seat i).epoch)) := by
  unfold ChairView.resumeMachine
  rw [hi, Option.filter_some, if_pos hd]

theorem ChairView.resumeMachine_seatBusy
    (h : ∀ i, (v.seat i).names x = true → (v.seat i).drives = false) :
    v.resumeMachine x = chairAnswer .seatBusy v := by
  unfold ChairView.resumeMachine
  cases hi : v.seatFor x with
  | none => rfl
  | some i => rw [Option.filter_some, if_neg (Bool.eq_false_iff.1 (h i (ChairView.names_of_seatFor hi)))]

end

/-- Settles O40: HALT MACHINE asks only for a target R157 allows, RESUME MACHINE for the seat that names the
machine to be one that drives it. -/
theorem haltAndResumeMachine : Obligations.HaltAndResumeMachine := by
  intro ps s c x h hn hx
  refine ⟨?halt, ?haltRefused, ?resume, ?resumeRefused⟩
  case halt =>
    intro hok
    rw [exec_haltMachine_taken h hn, hx, ChairView.haltMachine_ok ((targetOk_iff x).2 hok)]
    rfl
  case haltRefused =>
    intro hbad
    rw [exec_haltMachine_taken h hn, hx, ChairView.haltMachine_badParameter (mt (targetOk_iff x).1 hbad),
      finish_unchanged h]
  case resume =>
    intro i hi hstate
    rw [exec_resumeMachine_taken h hn, hx,
      ChairView.resumeMachine_ok (v := takenView s c) (ChairView.seatFor_of_seatOf hi)
        ((Seat.drives_iff _).2 hstate)]
    rfl
  case resumeRefused =>
    intro hnone
    have hidle : ∀ i, ((takenView s c).seat i).names x = true → ((takenView s c).seat i).drives = false :=
      fun i hi => Bool.eq_false_iff.2 fun hd => ((Seat.drives_iff _).1 hd).elim (hnone i hi).1 (hnone i hi).2
    rw [exec_resumeMachine_taken h hn, hx, ChairView.resumeMachine_seatBusy hidle, finish_unchanged h]

/-! ### SEAT YIELD and SEAT DECLINE (R99, R100) -/

section
variable {v : ChairView} {i : Fin 4} {p : SeatProposal}

theorem ChairView.seatYield_wrongState (h : (v.seat i).state ≠ .holding ∨ (v.seat i).proposal = none) :
    v.seatYield i = chairAnswer .wrongState v :=
  if_pos h

theorem ChairView.seatDecline_wrongState (h : (v.seat i).state ≠ .holding ∨ (v.seat i).proposal = none) :
    v.seatDecline i = chairAnswer .wrongState v :=
  if_pos h

/-- A HOLDING seat with a proposal has nothing of WRONG_STATE's (R99, R100). -/
theorem ChairView.holds_proposal (hs : (v.seat i).state = .holding) (hp : (v.seat i).proposal = some p) :
    ¬ ((v.seat i).state ≠ .holding ∨ (v.seat i).proposal = none) :=
  not_or.2 ⟨not_not.2 hs, ne_of_eq_of_ne hp (Option.some_ne_none p)⟩

/-- Past WRONG_STATE, SEAT YIELD asks for the engine and then for the context length (R99). -/
theorem ChairView.seatYield_of_proposal (hs : (v.seat i).state = .holding)
    (hp : (v.seat i).proposal = some p) :
    v.seatYield i
      = if v.engine.active.isSome || v.otherSending i then chairAnswer .engineBusy v
        else if (v.seat i).area.length < Config.contextLeast then chairAnswer .badParameter v
        else chairAnswer .ok ((v.sendTo (v.seat i).machine
            (.yield (v.seat i).epoch (v.seat i).area.length)).updateSeat i
          (Seat.yielded (v.time + v.config.localHandover))) :=
  if_neg (ChairView.holds_proposal hs hp)

theorem ChairView.seatDecline_of_proposal (hs : (v.seat i).state = .holding)
    (hp : (v.seat i).proposal = some p) :
    v.seatDecline i
      = chairAnswer .ok
          ((v.sendTo (v.seat i).machine (.decline (v.seat i).epoch)).updateSeat i Seat.dropProposal) :=
  if_neg (ChairView.holds_proposal hs hp)

theorem ChairView.engine_busy_iff :
    (v.engine.active.isSome || v.otherSending i) = true
      ↔ v.engine.active.isSome = true ∨ ∃ j, j ≠ i ∧ (v.seat j).state = .sending := by
  unfold ChairView.otherSending
  simp [mem_seatOrder]

theorem ChairView.engine_not_busy (hidle : v.engine.active = none)
    (hothers : ∀ j, j ≠ i → (v.seat j).state ≠ .sending) :
    ¬ (v.engine.active.isSome || v.otherSending i) = true :=
  fun hbusy => (ChairView.engine_busy_iff.1 hbusy).elim
    (fun hsome => Bool.false_ne_true ((congrArg Option.isSome hidle).symm.trans hsome))
    fun ⟨j, hj, hsending⟩ => hothers j hj hsending

theorem Seat.yielded_of_proposal {q : Seat} (hp : q.proposal = some p) (wait : Nat) :
    q.yielded wait
      = { q with state := .sending, proposal := some ⟨p.asker, none⟩, handoverWait := some wait } :=
  congrArg (fun o : Option SeatProposal =>
    ({ q with state := .sending, proposal := o, handoverWait := some wait } : Seat))
    (congrArg (Option.map fun p : SeatProposal => { p with wait := none }) hp)

end

/-! ### SEAT RELEASE (R87, R101) -/

section
variable {v : ChairView} {i : Fin 4}

/-- Where neither the active transfer nor the pending receive serves a seat, there is nothing of it to end
(R38). -/
theorem ChairView.endSeatTransfer_of_unlocked (h : v.engine.locks i = false) (committed : Bool) :
    v.endSeatTransfer i committed = v :=
  have ⟨hactive, hpending⟩ := Bool.or_eq_false_iff.1 h
  (if_neg (Bool.eq_false_iff.1 hactive)).trans (if_neg (Bool.eq_false_iff.1 hpending))

/-- A seat the engine does not serve is freed with its own claim and its machine's aged record alone (R87,
R116). -/
theorem ChairView.makeFree_of_unlocked (h : v.engine.locks i = false) :
    v.makeFree i
      = { v with toChairBlocks := v.toChairBlocks.freed i v.config.fleetAge v.time } :=
  congrArg (fun w : ChairView => (w.updateSeat i Seat.clear).dropAged (v.seat i).machine)
    (ChairView.endSeatTransfer_of_unlocked h false)

theorem ChairView.seatRelease_holding (hs : (v.seat i).state = .holding) :
    v.seatRelease i
      = chairAnswer .ok ((v.sendTo (v.seat i).machine (.release (v.seat i).epoch)).makeFree i) := by
  unfold ChairView.seatRelease
  rw [hs]

theorem ChairView.seatRelease_asked
    (hs : (v.seat i).state = .asking ∨ (v.seat i).state = .waiting ∨ (v.seat i).state = .seizing) :
    v.seatRelease i = chairAnswer .ok (v.makeFree i) := by
  unfold ChairView.seatRelease
  rcases hs with hs | hs | hs <;> rw [hs]

theorem ChairView.seatRelease_wrongState
    (hs : (v.seat i).state = .sending ∨ (v.seat i).state = .receiving ∨ (v.seat i).state = .free) :
    v.seatRelease i = chairAnswer .wrongState v := by
  unfold ChairView.seatRelease
  rcases hs with hs | hs | hs <;> rw [hs]

end

/-- Settles O36: each command is its rule, whose branches are those of R99 to R101; a seat that may be released is
one the engine does not serve. -/
theorem seatYieldDeclineRelease : Obligations.SeatYieldDeclineRelease := by
  intro ps s c h hn hseat i q
  refine ⟨fun p hs hp => ⟨?busy, ?short, ?yield, ?decline⟩, ?noProposal, ?release, ?withdrawAsk, ?unreleased⟩
  case busy =>
    intro hbusy
    rw [exec_seatYield_taken h hn hseat,
      ChairView.seatYield_of_proposal (v := takenView s c) hs hp,
      if_pos (ChairView.engine_busy_iff.2 hbusy), finish_unchanged h]
  case short =>
    intro hidle hothers hlength
    have hshort : ((takenView s c).seat i).area.length < Config.contextLeast := hlength
    rw [exec_seatYield_taken h hn hseat,
      ChairView.seatYield_of_proposal (v := takenView s c) hs hp,
      if_neg (ChairView.engine_not_busy hidle hothers), if_pos hshort, finish_unchanged h]
  case yield =>
    intro hidle hothers hlength
    have hlong : ¬ ((takenView s c).seat i).area.length < Config.contextLeast := Nat.not_lt.2 hlength
    rw [exec_seatYield_taken h hn hseat,
      ChairView.seatYield_of_proposal (v := takenView s c) hs hp,
      if_neg (ChairView.engine_not_busy hidle hothers), if_neg hlong, ← Seat.yielded_of_proposal hp]
    rfl
  case decline =>
    rw [exec_seatDecline_taken h hn hseat, ChairView.seatDecline_of_proposal (v := takenView s c) hs hp]
    rfl
  case noProposal =>
    intro hnone
    rw [exec_seatYield_taken h hn hseat, exec_seatDecline_taken h hn hseat,
      ChairView.seatYield_wrongState (v := takenView s c) hnone,
      ChairView.seatDecline_wrongState (v := takenView s c) hnone, finish_unchanged h]
    exact ⟨rfl, rfl⟩
  case release =>
    intro hfree hs
    rw [exec_seatRelease_taken h hn hseat, ChairView.seatRelease_holding (v := takenView s c) hs,
      ChairView.makeFree_of_unlocked hfree, ChairView.sendTo_config, ChairView.sendTo_time]
    rfl
  case withdrawAsk =>
    intro hfree hs
    rw [exec_seatRelease_taken h hn hseat, ChairView.seatRelease_asked (v := takenView s c) hs,
      ChairView.makeFree_of_unlocked hfree]
    rfl
  case unreleased =>
    intro hs
    rw [exec_seatRelease_taken h hn hseat,
      ChairView.seatRelease_wrongState (v := takenView s c) hs, finish_unchanged h]

end Sys2Proof.Machine
end

section
/-!
A seizure: the seize-armed record that every command taken and every reset removes (R108, R188), the two commands
that arm and seize (R108, R109), and the obligation on them.
-/
namespace Sys2Proof.Machine

/-! ### The seize-armed record is its chair's (R86) -/

theorem State.armed_of_chair {s : State} {c : ChairBlocks} (h : s.blocks = .chair c) : s.armed = c.armed := by
  unfold State.armed
  rw [h]

theorem State.armed_of_machine {s : State} {m : MachineBlocks} (h : s.blocks = .machine m) :
    s.armed = none := by
  unfold State.armed
  rw [h]

theorem State.commandTaken_armed (s : State) : s.commandTaken.armed = none := by
  unfold State.armed State.commandTaken
  cases s.blocks <;> rfl

/-- The seize-armed flag is bit 4 of the status record's flags, and the four flags below it come to less than 16
(R181, R189). -/
theorem State.statusFlags_armed (s : State) : s.statusFlags / 16 = if s.armed.isSome then 1 else 0 := by
  have hlow : ∀ a b c d e : Bool, bitsByte [a, b, c, d, e] / 16 = if e then 1 else 0 := by decide
  exact hlow ..

/-! ### What keeps the record: an operation of a chair's blocks -/

/-- What both branches of a test give, the test gives. -/
theorem apply_ite_eq {α β : Type} (f : α → β) {p : Prop} [Decidable p] {x y : α} {b : β} (hx : f x = b)
    (hy : f y = b) : f (if p then x else y) = b :=
  if h : p then (congrArg f (if_pos h)).trans hx else (congrArg f (if_neg h)).trans hy

section
variable {n : Option Nat} {p : Prop} [Decidable p]

theorem ChairView.ite_armed {v w : ChairView} (hv : v.armed = n) (hw : w.armed = n) :
    (if p then v else w).armed = n :=
  apply_ite_eq (fun v : ChairView => v.armed) hv hw

theorem ite_answer_armed {x y : ChairAnswer} (hx : x.1.armed = n) (hy : y.1.armed = n) :
    (if p then x else y).1.armed = n :=
  apply_ite_eq (fun a : ChairAnswer => a.1.armed) hx hy

end

section
variable (v : ChairView) (i : Fin 4)

theorem ChairView.faultNotice_armed (z : ZoneCode) :
    ∀ f : Option ZoneFault, (v.faultNotice i f z).armed = v.armed
  | none => rfl
  | some _ => rfl

theorem ChairView.endActive_armed (committed : Bool) : (v.endActive committed).armed = v.armed := by
  have hsettled : ∀ a, (v.settleArea a committed).armed = v.armed := fun a => by
    unfold ChairView.settleArea
    cases a.side <;> rfl
  have htaken : ∀ w : ChairView, w.takeUpPending.armed = w.armed := fun w => by
    unfold ChairView.takeUpPending
    cases w.engine.pendingReceive with
    | none => rfl
    | some p => exact ChairView.ite_armed rfl rfl
  unfold ChairView.endActive
  cases v.engine.active with
  | none => rfl
  | some a => exact (htaken _).trans (hsettled a)

theorem ChairView.makeFree_armed : (v.makeFree i).armed = v.armed :=
  ChairView.ite_armed (v.endActive_armed false) (ChairView.ite_armed rfl rfl)

theorem ChairView.readmit_armed : (v.readmit i).armed = v.armed := by
  unfold ChairView.readmit
  cases v.record (v.seat i).machine with
  | none => rfl
  | some rec => exact ChairView.ite_armed (ChairView.faultNotice_armed ..) (ChairView.faultNotice_armed ..)

theorem ChairView.readmitAll_armed (p : ChairView → Fin 4 → Bool) : (v.readmitAll p).armed = v.armed :=
  List.foldlRecOn (motive := fun w : ChairView => w.armed = v.armed) seatOrder _ rfl
    fun w hw i _ => ChairView.ite_armed ((w.readmit_armed i).trans hw) hw

end

/-! ### What keeps the record: a rule of a chair's host -/

/-- A chair's rule for a host command leaves the seize-armed record as it finds it. -/
def KeepsArmed (rule : ChairView → ChairAnswer) : Prop := ∀ v, (rule v).1.armed = v.armed

section
variable (i : Fin 4)

theorem keepsArmed_seatAsk (x : Nat) : KeepsArmed (ChairView.seatAsk x) := by
  refine fun v => ite_answer_armed rfl ?_
  cases v.seatFor x with
  | none =>
    cases v.record x with
    | none => rfl
    | some rec => cases v.freeSeat <;> rfl
  | some j =>
    cases v.record x with
    | none => rfl
    | some rec => exact ite_answer_armed (ChairView.faultNotice_armed ..) rfl

theorem keepsArmed_seatRelease : KeepsArmed (ChairView.seatRelease i) := by
  intro v
  unfold ChairView.seatRelease
  cases (v.seat i).state with
  | holding => exact ChairView.makeFree_armed ..
  | asking | waiting | seizing => exact v.makeFree_armed i
  | sending | receiving | free => rfl

theorem keepsArmed_atReceivingSeat {rule : ActiveTransfer → Receiver → ChairView → ChairView}
    (hrule : ∀ a r v, (rule a r v).armed = v.armed) : KeepsArmed (ChairView.atReceivingSeat i rule) := by
  intro v
  unfold ChairView.atReceivingSeat
  cases v.engine.active with
  | none => rfl
  | some a =>
    dsimp only
    cases a.side with
    | sender r => rfl
    | receiver r => exact ite_answer_armed (hrule a r v) rfl

theorem keepsArmed_seatAbandon : KeepsArmed (ChairView.seatAbandon i) := by
  intro v
  unfold ChairView.seatAbandon
  have habandoned : ∀ reason, (v.abandon i reason).armed = v.armed := fun reason => by
    unfold ChairView.abandon
    cases v.engine.active.filter fun a => decide (a.seat = i) with
    | some a => exact ChairView.endActive_armed ..
    | none =>
      cases v.engine.pendingReceive.filter fun p => decide (p.seat = i) with
      | some p => rfl
      | none => cases (v.seat i).transfer <;> rfl
  cases (v.seat i).state with
  | sending | receiving => exact habandoned _
  | _ => rfl

theorem keepsArmed_seize (armed : Option Nat) (x : Nat) : KeepsArmed (ChairView.seize armed x) := by
  refine fun v => ite_answer_armed rfl ?_
  cases (v.record x).filter fun r => decide (r.state = .orphaned) with
  | none => rfl
  | some rec => cases v.freeSeat <;> rfl

end

/-! ### What removes the record: a command taken, and a reset (R88, R108, R188) -/

section
variable {a : Availability} {long : Bool} {seat : Option Nat} {s : State}

/-- A command taken ends with no machine armed where its block's answer arms none (R188). -/
theorem hostCommand_disarms {body : State → Answer} (h : (body s.commandTaken).1.armed = none) :
    (hostCommand a long seat body s).armed = none := by
  cases hcheck : sharedCheck a long seat s with
  | some code => rw [hostCommand_refused hcheck]; exact State.commandTaken_armed s
  | none => rw [hostCommand_taken hcheck]; exact h

theorem chairRule_disarms {rule : ChairView → ChairAnswer} (h : KeepsArmed rule) :
    (hostCommand a long seat (answerChair rule) s).armed = none := by
  refine hostCommand_disarms ?_
  rw [← State.commandTaken_armed s]
  unfold answerChair
  cases hb : s.commandTaken.blocks with
  | chair c => exact (h ⟨s.commandTaken, c⟩).trans (State.armed_of_chair hb).symm
  | unset | machine => rfl

theorem machineRule_disarms (rule : MachineView → MachineAnswer) :
    (hostCommand a long seat (answerMachine rule) s).armed = none := by
  refine hostCommand_disarms ?_
  unfold answerMachine
  cases s.commandTaken.blocks with
  | machine m => rfl
  | unset | chair => exact State.commandTaken_armed s

/-- A command that leaves the role's blocks alone arms nothing. -/
theorem hostCommand_disarms_of_blocks {body : State → Answer}
    (h : ∀ t, (body t).1.blocks = t.blocks) : (hostCommand a long seat body s).armed = none :=
  hostCommand_disarms (by
    rw [← State.commandTaken_armed s]
    unfold State.armed
    rw [h])

end

/-- The follow-on work of a role re-admits seats and looks zones up; it arms nothing (R133, R135, R137). -/
theorem State.followOn_armed (zone : Option ZonePrefix) (s : State) : (s.followOn zone).armed = s.armed := by
  refine apply_ite_eq State.armed rfl ?_
  cases hb : s.blocks with
  | unset => rw [onMachine_other (by simp [hb]), onChair_other (by simp [hb])]
  | machine m =>
    rw [onMachine_machine hb, onChair_other (by simp), State.armed_of_machine hb]
    rfl
  | chair c =>
    rw [onMachine_other (by simp [hb]), onChair_chair hb, State.armed_of_chair hb]
    exact ChairView.readmitAll_armed ..

theorem State.zoneFence_armed (ps : List Byte) (s : State) : (s.zoneFence ps).1.armed = s.armed := by
  unfold State.zoneFence
  cases fenceZone (param ps 0) (param2 ps 1) with
  | none => rfl
  | some zone =>
    cases fenceGeneration (param ps 3) (param ps 4) with
    | none => rfl
    | some generation => exact State.followOn_armed ..

theorem State.zoneWrite_blocks (ps : List Byte) (s : State) : (s.zoneWrite ps).1.blocks = s.blocks := by
  unfold State.zoneWrite
  cases entryAddress (param ps 0) (param ps 1) (param ps 2) with
  | none => rfl
  | some address => cases zoneEntryOf (param ps 3) (ps.getD 4 0) (ps.getD 5 0) (ps.getD 6 0) <;> rfl

/-- The blocks of a new role arm nothing, and those of the role a station has already stand (R199). -/
theorem State.setRole_armed {s : State} (h : s.armed = none) : ∀ code, (s.setRole code).1.armed = none
  | 1 | 2 => apply_ite_eq State.armed h rfl
  | 0 | _ + 3 => h

theorem State.softReset_armed (s : State) : s.softReset.armed = none := by
  unfold State.armed State.softReset
  cases s.blocks <;> rfl

theorem armed_of_next {t t' : State} (h : (.next t' : Host.Outcome State Fault Refusal) = .next t)
    (ht : t'.armed = none) : t.armed = none :=
  Host.Outcome.next.inj h ▸ ht

/-- Every host command but SEIZE ARM, and every reset, leaves no machine armed (R88, R108, R188). A rule of tests alone
needs no lemma of its own: each `ite_answer_armed` passes one of its tests. -/
theorem exec_disarms {i : Instr} {s t : State} (hi : (availability i).isSome = true ∨ i = .hardReset)
    (hother : ∀ ps, i ≠ .seizeArm ps) (h : exec i s = .next t) : t.armed = none := by
  cases i with
  | hardReset => exact armed_of_next h rfl
  | setRole ps => exact armed_of_next h (hostCommand_disarms (State.setRole_armed (State.commandTaken_armed s) _))
  | setStation ps => exact armed_of_next h (hostCommand_disarms_of_blocks fun _ =>
      apply_ite_eq (fun a : Answer => a.1.blocks) rfl rfl)
  | setClock ps => exact armed_of_next h (hostCommand_disarms_of_blocks fun _ => rfl)
  | setLineRate ps => exact armed_of_next h (hostCommand_disarms_of_blocks fun _ => apply_ite_eq State.blocks rfl rfl)
  | setTiming ps => exact armed_of_next h (hostCommand_disarms_of_blocks fun _ => rfl)
  | setRamp ps => exact armed_of_next h (hostCommand_disarms_of_blocks fun _ => rfl)
  | setStrobe ps =>
    refine armed_of_next h (hostCommand_disarms_of_blocks fun _ => ?_)
    unfold State.setStrobe
    cases polarityOf (param ps 1) <;> rfl
  | start ps => exact armed_of_next h (hostCommand_disarms_of_blocks fun _ =>
      apply_ite_eq (fun a : Answer => a.1.blocks) rfl rfl)
  | seatAsk ps => exact armed_of_next h (chairRule_disarms (keepsArmed_seatAsk _))
  | seatYield ps => exact armed_of_next h (chairRule_disarms fun _ =>
      ite_answer_armed rfl (ite_answer_armed rfl (ite_answer_armed rfl rfl)))
  | seatDecline ps => exact armed_of_next h (chairRule_disarms fun _ => ite_answer_armed rfl rfl)
  | seatRelease ps => exact armed_of_next h (chairRule_disarms (keepsArmed_seatRelease _))
  | seatSetpoint ps => exact armed_of_next h (chairRule_disarms fun _ => ite_answer_armed rfl rfl)
  | seatLimit ps => exact armed_of_next h (chairRule_disarms fun _ =>
      ChairView.ite_armed (ChairView.readmit_armed ..) rfl)
  | seatHold ps =>
    refine armed_of_next h (chairRule_disarms (keepsArmed_atReceivingSeat _ fun _ r _ => ?_))
    unfold ChairView.pauseFor
    dsimp only
    cases r.state <;> rfl
  | seatGo ps =>
    refine armed_of_next h (chairRule_disarms (keepsArmed_atReceivingSeat _ fun _ r _ =>
      ChairView.ite_armed (ChairView.ite_armed rfl ?_) rfl))
    unfold ChairView.liftPause
    dsimp only
    cases r.state <;> rfl
  | seatAbandon ps => exact armed_of_next h (chairRule_disarms (keepsArmed_seatAbandon _))
  | seatRead ps => exact armed_of_next h (chairRule_disarms fun _ => rfl)
  | contextWrite ps => exact armed_of_next h (chairRule_disarms fun _ => ite_answer_armed rfl (ite_answer_armed rfl rfl))
  | contextRead ps => exact armed_of_next h (chairRule_disarms fun _ => ite_answer_armed rfl rfl)
  | seizeArm ps => exact absurd rfl (hother ps)
  | seize ps => exact armed_of_next h (chairRule_disarms (keepsArmed_seize _ _))
  | haltMachine ps => exact armed_of_next h (chairRule_disarms fun _ => ite_answer_armed rfl rfl)
  | resumeMachine ps =>
    refine armed_of_next h (chairRule_disarms fun v => ?_)
    unfold ChairView.resumeMachine
    cases (v.seatFor (param ps 0)).filter fun i => (v.seat i).drives <;> rfl
  | fleetRead ps =>
    refine armed_of_next h (chairRule_disarms fun v => ite_answer_armed rfl ?_)
    cases v.fleet.reverse[param ps 0]? <;> rfl
  | position ps => exact armed_of_next h (machineRule_disarms _)
  | localHalt ps => exact armed_of_next h (machineRule_disarms _)
  | localResume ps => exact armed_of_next h (machineRule_disarms _)
  | clearBinding ps => exact armed_of_next h (machineRule_disarms _)
  | slotRead ps => exact armed_of_next h (machineRule_disarms _)
  | zoneWrite ps => exact armed_of_next h (hostCommand_disarms_of_blocks fun _ => State.zoneWrite_blocks ..)
  | zoneRead ps =>
    refine armed_of_next h (hostCommand_disarms_of_blocks fun _ => ?_)
    unfold State.zoneRead
    cases entryAddress (param ps 0) (param ps 1) (param ps 2) <;> rfl
  | zoneGeneration ps =>
    exact armed_of_next h (hostCommand_disarms ((apply_ite_eq (fun a : Answer => a.1.armed) rfl
      (State.followOn_armed ..)).trans (State.commandTaken_armed s)))
  | zoneFence ps =>
    exact armed_of_next h (hostCommand_disarms ((State.zoneFence_armed ..).trans (State.commandTaken_armed s)))
  | zoneLookup ps =>
    refine armed_of_next h (hostCommand_disarms_of_blocks fun _ => ?_)
    unfold State.zoneLookup
    cases zoneOf (param2 ps 0) <;> rfl
  | statusRead ps => exact armed_of_next h (hostCommand_disarms_of_blocks fun _ => rfl)
  | noticeRead ps => exact armed_of_next h (hostCommand_disarms_of_blocks fun _ => rfl)
  | softReset ps => exact armed_of_next h (State.softReset_armed s)
  | _ => rcases hi with hi | hi <;> cases hi

/-! ### SEIZE ARM and SEIZE (R108, R109) -/

section
variable {s : State} {c : ChairBlocks} {ps : List Byte}

theorem exec_seizeArm_taken (h : s.chairOnline c) (hn : 1 ≤ ps.length) :
    exec (.seizeArm ps) s
      = .next (finish (closeChair ((takenView s c).seizeArm (param ps 0)))) :=
  congrArg Host.Outcome.next (chairCommand_taken h hn _)

/-- SEIZE's rule sees the seize-armed record as the command found it (R109). -/
theorem exec_seize_taken (h : s.chairOnline c) (hn : 1 ≤ ps.length) :
    exec (.seize ps) s
      = .next (finish (closeChair ((takenView s c).seize c.armed (param ps 0)))) := by
  rw [← State.armed_of_chair h.2]
  exact congrArg Host.Outcome.next (chairCommand_taken h hn _)

end

section
variable {v : ChairView} {x : Nat} {i : Fin 4} {rec : FleetRecord}

theorem ChairView.seizeArm_badParameter (hx : stationNumber x = false) :
    v.seizeArm x = chairAnswer .badParameter v := by
  unfold ChairView.seizeArm
  rw [hx]
  rfl

theorem ChairView.seizeArm_unknownMachine (hx : stationNumber x = true) (hrec : v.record x = none) :
    v.seizeArm x = chairAnswer .unknownMachine v := by
  unfold ChairView.seizeArm
  rw [hx, hrec]
  rfl

/-- The refusals of SEIZE ARM for a machine with a record, in their order (R108). -/
theorem ChairView.seizeArm_of_record (hx : stationNumber x = true) (hrec : v.record x = some rec) :
    v.seizeArm x
      = if rec.state ≠ .orphaned then chairAnswer .notOrphaned v
        else if (v.seatFor x).isSome then chairAnswer .seatBusy v
        else if v.freeSeat.isNone then chairAnswer .seatsFull v
        else chairAnswer .ok { v with armed := some x } := by
  unfold ChairView.seizeArm
  rw [hx, hrec]
  rfl

variable {armed : Option Nat}

theorem ChairView.seize_notArmed (h : armed ≠ some x) : v.seize armed x = chairAnswer .notArmed v :=
  if_pos h

theorem ChairView.seize_notOrphaned (harmed : armed = some x)
    (h : ∀ rec, v.record x = some rec → rec.state ≠ .orphaned) :
    v.seize armed x = chairAnswer .notOrphaned v := by
  have hnone : (v.record x).filter (fun r => decide (r.state = .orphaned)) = none :=
    Option.filter_eq_none_iff.2 fun r hr => mt of_decide_eq_true (h r hr)
  unfold ChairView.seize
  rw [if_neg (not_not.2 harmed), hnone]

theorem ChairView.seize_of_orphaned (harmed : armed = some x) (hrec : v.record x = some rec)
    (hstate : rec.state = .orphaned) :
    v.seize armed x = v.freeSeat.elim (chairAnswer .seatsFull v) fun i => v.seizeOn i rec := by
  unfold ChairView.seize
  rw [if_neg (not_not.2 harmed), hrec, Option.filter_some, if_pos (decide_eq_true hstate)]
  cases v.freeSeat <;> rfl

end

/-- Settles O35: SEIZE ARM and SEIZE are their rules, read in the order of R108 and R109; every other command taken
ends with no machine armed, since only SEIZE ARM's rule writes the record that R188 has removed. -/
theorem seizureTakesTwoCommands : Obligations.SeizureTakesTwoCommands := by
  refine ⟨fun ps s c x h hn hx => ?seizeArm, fun ps s c x h hn hx => ?seize, fun i s t => exec_disarms,
    State.statusFlags_armed⟩
  case seizeArm =>
    rw [exec_seizeArm_taken h hn, hx]
    refine ⟨?badParameter, fun hlow hhigh => ?station⟩
    case badParameter =>
      intro hbad
      have hnot : ¬ (1 ≤ x ∧ x ≤ 60) := by omega
      rw [ChairView.seizeArm_badParameter (Bool.eq_false_iff.2 (mt (stationNumber_iff x).1 hnot)),
        finish_unchanged h]
    case station =>
      have hnum : stationNumber x = true := (stationNumber_iff x).2 ⟨hlow, hhigh⟩
      refine ⟨?unknownMachine, fun rec hrec => ?known⟩
      case unknownMachine =>
        intro hrec
        rw [ChairView.seizeArm_unknownMachine (v := takenView s c) hnum hrec, finish_unchanged h]
      case known =>
        have hseats : ¬ ((takenView s c).seatFor x).isSome = true ↔ c.unnamed x := by
          rw [Option.not_isSome_iff_eq_none]
          exact ChairView.seatFor_eq_none
        have hfull : (takenView s c).freeSeat.isNone = true ↔ ∀ i, (c.seats.get i).state ≠ .free := by
          rw [Option.isNone_iff_eq_none]
          exact ChairView.freeSeat_eq_none
        rw [ChairView.seizeArm_of_record (v := takenView s c) hnum hrec]
        refine ⟨?notOrphaned, ?seatBusy, ?seatsFull, ?arm⟩
        case notOrphaned =>
          intro hstate
          rw [if_pos hstate, finish_unchanged h]
        case seatBusy =>
          intro hstate ⟨i, hi⟩
          have hnamed : ((takenView s c).seatFor x).isSome = true := not_not.1 fun hnone =>
            Bool.false_ne_true ((hseats.1 hnone i).symm.trans hi)
          rw [if_neg (not_not.2 hstate), if_pos hnamed, finish_unchanged h]
        case seatsFull =>
          intro hstate hseat hnone
          rw [if_neg (not_not.2 hstate), if_neg (hseats.2 hseat), if_pos (hfull.2 hnone), finish_unchanged h]
        case arm =>
          intro hstate hseat ⟨i, hi⟩
          rw [if_neg (not_not.2 hstate), if_neg (hseats.2 hseat), if_neg fun hnone => hfull.1 hnone i hi]
          rfl
  case seize =>
    rw [exec_seize_taken h hn, hx]
    refine ⟨?notArmed, ?notOrphaned, ?seatsFull, ?occupy⟩
    case notArmed =>
      intro harmed
      rw [ChairView.seize_notArmed harmed, finish_unchanged h]
    case notOrphaned =>
      intro harmed hstate
      rw [ChairView.seize_notOrphaned (v := takenView s c) harmed hstate, finish_unchanged h]
    case seatsFull =>
      intro harmed rec hrec hstate hfull
      rw [ChairView.seize_of_orphaned (v := takenView s c) harmed hrec hstate,
        (ChairView.freeSeat_eq_none (v := takenView s c)).2 hfull]
      exact congrArg Host.Outcome.next (finish_unchanged h _)
    case occupy =>
      intro harmed i rec hrec hstate hfree
      rw [ChairView.seize_of_orphaned (v := takenView s c) harmed hrec hstate,
        ChairView.freeSeat_of_firstFree (v := takenView s c) hfree, ← ChairBlocks.machine_of_recordOf hrec]
      rfl

end Sys2Proof.Machine
end

section
/-!
Zone tables: the places and entries the zone commands' parameters name (R118, R120, R121, R179), an ordinary lookup
case by case (R123, R127, R128), and the obligations on ZONE WRITE, ZONE READ and ZONE LOOKUP (R120, R121, R134).
-/
namespace Sys2Proof.Machine

/-! ### The parameters of the zone commands (R120, R121, R162, R179) -/

theorem entryAddress_eq_some_iff {table number index address : Nat} :
    entryAddress table number index = some address
      ↔ table = 0 ∧ number = 0 ∧ index < 16 ∧ address = index
        ∨ table = 1 ∧ number < 24 ∧ index < 32 ∧ address = 16 + number * 32 + index
        ∨ table = 2 ∧ number < 48 ∧ index < 16 ∧ address = 784 + number * 16 + index := by
  match table with
  | 0 => simp [entryAddress, topAddress, and_assoc, eq_comm]
  | 1 => simp [entryAddress, crosscutAddress, and_assoc, eq_comm]
  | 2 => simp [entryAddress, drawpointAddress, and_assoc, eq_comm]
  | _ + 3 => simp [entryAddress]

theorem entryAddress_eq_none_iff {table number index : Nat} :
    entryAddress table number index = none
      ↔ 2 < table
        ∨ table = 0 ∧ (0 < number ∨ 15 < index)
        ∨ table = 1 ∧ (23 < number ∨ 31 < index)
        ∨ table = 2 ∧ (47 < number ∨ 15 < index) := by
  match table with
  | 0 | 1 | 2 => simp [entryAddress]; omega
  | _ + 3 => simp [entryAddress]

theorem zoneEntryOf_eq_some_iff {kind : Nat} {b1 b2 b3 : Byte} {e : ZoneEntry} :
    zoneEntryOf kind b1 b2 b3 = some e
      ↔ kind = 0 ∧ e = .absent
        ∨ kind = 1 ∧ e = .leaf (rightsOf b1) (min b2.toNat 250) (b3.getLsbD 0)
        ∨ kind = 2 ∧ e = .branch b1.toNat := by
  match kind with
  | 0 | 2 => simp [zoneEntryOf, eq_comm]
  | 1 => simp [zoneEntryOf, clampLimit, flagOf, eq_comm]
  | _ + 3 => simp [zoneEntryOf]

theorem zoneEntryOf_eq_none_iff {kind : Nat} {b1 b2 b3 : Byte} :
    zoneEntryOf kind b1 b2 b3 = none ↔ 2 < kind := by
  match kind with
  | 0 | 1 | 2 => simp [zoneEntryOf]
  | _ + 3 => simp [zoneEntryOf]

theorem okOr_limitCut (kind : Nat) (limit : Byte) :
    okOr (limitCut kind limit) = if kind = 1 ∧ 250 < limit.toNat then .adjusted else .ok := by
  simp [okOr, limitCut]

theorem zoneOf_eq_none_iff {n : Nat} : zoneOf n = none ↔ 8191 < n := by
  simp [zoneOf]

/-! ### ZONE WRITE's rule (R120) -/

/-- What a written entry leaves to be read of the table, at every place. -/
theorem Zones.entry_write {z : Zones} (h : storeWf ZoneEntry.absent z.table = true) (a b : Nat)
    (e : ZoneEntry) : (z.write a e).entry b = if b = a then e else z.entry b :=
  storeRead_write h a b e

section
variable {ps : List Byte} {s : State}

theorem exec_zoneWrite_taken (h : 7 ≤ ps.length) :
    exec (.zoneWrite ps) s = .next (finish (s.commandTaken.zoneWrite ps)) :=
  congrArg Host.Outcome.next (hostCommand_everywhere (decide_eq_true h) _ s)

theorem State.zoneWrite_of_entry {a : Nat} {e : ZoneEntry}
    (ha : entryAddress (param ps 0) (param ps 1) (param ps 2) = some a)
    (he : zoneEntryOf (param ps 3) (ps.getD 4 0) (ps.getD 5 0) (ps.getD 6 0) = some e) :
    s.zoneWrite ps
      = answer (okOr (limitCut (param ps 3) (ps.getD 5 0))) { s with zones := s.zones.write a e } := by
  unfold State.zoneWrite
  rw [ha, he]

theorem State.zoneWrite_refused
    (h : entryAddress (param ps 0) (param ps 1) (param ps 2) = none
      ∨ zoneEntryOf (param ps 3) (ps.getD 4 0) (ps.getD 5 0) (ps.getD 6 0) = none) :
    s.zoneWrite ps = answer .badParameter s := by
  unfold State.zoneWrite
  rcases h with hplace | hentry
  · rw [hplace]
  · rw [hentry]
    cases entryAddress (param ps 0) (param ps 1) (param ps 2) <;> rfl

end

/-- Settles O13: the parameters name a place and an entry, or one of them is out of range; the entry is then read
back by the buffer's own rule for a read after a write. -/
theorem zoneWriteStoresTheEntry : Obligations.ZoneWriteStoresTheEntry := by
  intro ps s hlen
  rw [exec_zoneWrite_taken hlen]
  refine ⟨fun a e hwf hplace hentry => ⟨(s.zones.write a e).table, ?answer, ?stored, ?others⟩, ?refused⟩
  case answer =>
    rw [State.zoneWrite_of_entry (entryAddress_eq_some_iff.2 hplace) (zoneEntryOf_eq_some_iff.2 hentry),
      okOr_limitCut]
    rfl
  case stored => exact (Zones.entry_write hwf a a e).trans (if_pos rfl)
  case others => exact fun b hb => (Zones.entry_write hwf a b e).trans (if_neg hb)
  case refused =>
    intro hrange
    have hnone : entryAddress (param ps 0) (param ps 1) (param ps 2) = none
        ∨ zoneEntryOf (param ps 3) (ps.getD 4 0) (ps.getD 5 0) (ps.getD 6 0) = none := by
      rw [entryAddress_eq_none_iff, zoneEntryOf_eq_none_iff]
      rcases hrange with htable | hkind | hplace
      · exact .inl (.inl htable)
      · exact .inr hkind
      · exact .inl (.inr hplace)
    rw [State.zoneWrite_refused hnone]
    rfl

/-! ### ZONE READ's rule (R121) -/

section
variable {ps : List Byte} {s : State}

theorem exec_zoneRead_taken (h : 3 ≤ ps.length) :
    exec (.zoneRead ps) s = .next (finish (s.commandTaken.zoneRead ps)) :=
  congrArg Host.Outcome.next (hostCommand_everywhere (decide_eq_true h) _ s)

theorem State.zoneRead_of_address {a : Nat}
    (ha : entryAddress (param ps 0) (param ps 1) (param ps 2) = some a) :
    s.zoneRead ps = (s, .ok, zoneEntryBytes (s.zones.entry a)) := by
  unfold State.zoneRead
  rw [ha]

theorem State.zoneRead_refused (h : entryAddress (param ps 0) (param ps 1) (param ps 2) = none) :
    s.zoneRead ps = answer .badParameter s := by
  unfold State.zoneRead
  rw [h]

end

/-- Settles O14: ZONE READ answers with the bytes of the entry at the place its parameters name, and the cache is no
part of its rule. -/
theorem zoneReadReturnsTheEntry : Obligations.ZoneReadReturnsTheEntry := by
  intro ps s hlen
  rw [exec_zoneRead_taken hlen]
  refine ⟨fun a hplace => ?entry, fun hrange => ?refused⟩
  case entry =>
    rw [State.zoneRead_of_address (entryAddress_eq_some_iff.2 hplace), State.commandTaken_zones]
    cases s.zones.entry a <;> rfl
  case refused =>
    rw [State.zoneRead_refused (entryAddress_eq_none_iff.2 hrange)]
    rfl

/-! ### An ordinary lookup and ZONE LOOKUP's rule (R123, R127, R128, R134) -/

section
variable {z : Zones} {code : ZoneCode}

theorem Zones.lookup_of_hit {e : CacheEntry} (h : cacheHit z code = some e) :
    z.lookup code = (found e.covered e.result true, z) := by
  unfold Zones.lookup
  rw [h]

theorem Zones.lookup_of_fault {f : ZoneFault} (h : cacheHit z code = none) (hw : walk z code = .error f) :
    z.lookup code = (faulted f, z) := by
  unfold Zones.lookup
  rw [h, hw]

theorem Zones.lookup_of_leaf {p : ZonePrefix} {r : ZoneResult} (h : cacheHit z code = none)
    (hw : walk z code = .ok (p, r)) :
    z.lookup code = (found p r false, { z with cache := fill ⟨p, z.generation, r⟩ z.cache }) := by
  unfold Zones.lookup
  rw [h, hw]

end

section
variable {ps : List Byte} {s : State}

theorem exec_zoneLookup_taken (h : 2 ≤ ps.length) :
    exec (.zoneLookup ps) s = .next (finish (s.commandTaken.zoneLookup (param2 ps 0))) :=
  congrArg Host.Outcome.next (hostCommand_everywhere (decide_eq_true h) _ s)

theorem State.zoneLookup_refused {n : Nat} (h : zoneOf n = none) :
    s.zoneLookup n = answer .badParameter s := by
  unfold State.zoneLookup
  rw [h]

theorem State.zoneLookup_of_zone {n : Nat} {z : ZoneCode} (h : zoneOf n = some z) :
    s.zoneLookup n
      = ({ s with zones := (s.zones.lookup z).2 }, .ok,
          lookupRecord (s.zones.lookup z).1 (s.zones.lookup z).2) := by
  unfold State.zoneLookup
  rw [h]

/-- ZONE LOOKUP taken: the zones a lookup leaves and the record of its answer, and nothing else (R134). -/
theorem exec_zoneLookup_of_lookup (h : 2 ≤ ps.length) {z : ZoneCode} (hz : zoneOf (param2 ps 0) = some z)
    {a : LookupAnswer} {zones : Zones} (hl : s.zones.lookup z = (a, zones)) :
    exec (.zoneLookup ps) s
      = .next (({ s with zones := zones } : State).commandTaken.respond .ok (lookupRecord a zones)) := by
  rw [exec_zoneLookup_taken h, State.zoneLookup_of_zone hz, State.commandTaken_zones, hl]
  rfl

end

/-- Settles O16: ZONE LOOKUP is the lookup's answer recorded and its zones kept, in each of the three ways an ordinary
lookup ends. -/
theorem zoneLookupAnswers : Obligations.ZoneLookupAnswers := by
  refine ⟨?refused, fun ps s z hlen hz => ⟨?hit, ?fault, ?leaf⟩⟩
  case refused =>
    intro ps s hlen hcode
    rw [exec_zoneLookup_taken hlen, State.zoneLookup_refused (zoneOf_eq_none_iff.2 hcode)]
    rfl
  case hit => exact fun e he => exec_zoneLookup_of_lookup hlen hz (Zones.lookup_of_hit he)
  case fault => exact fun f hmiss hw => exec_zoneLookup_of_lookup hlen hz (Zones.lookup_of_fault hmiss hw)
  case leaf => exact fun p r hmiss hw => exec_zoneLookup_of_lookup hlen hz (Zones.lookup_of_leaf hmiss hw)

end Sys2Proof.Machine
end

section
/-!
The notice-overrun flag as the host clears it: STATUS READ, the NOTICE READ after it, and the obligation on the two
(R189, R190, R194, R195).
-/
namespace Sys2Proof.Machine

/-! ### STATUS READ and NOTICE READ, taken in every station state and role (R186) -/

section
variable {ps : List Byte} {s t : State}

theorem exec_statusRead :
    exec (.statusRead ps) s = .next (finish (s.commandTaken.statusRead s.statusRecord)) :=
  congrArg Host.Outcome.next (hostCommand_everywhere rfl _ s)

theorem exec_noticeRead :
    exec (.noticeRead ps) s = .next (finish (s.commandTaken.noticeRead s.notices.clearStep)) :=
  congrArg Host.Outcome.next (hostCommand_everywhere rfl _ s)

/-- A STATUS READ opens the clear step exactly when the notice overrun it returns is set (R194). -/
theorem notices_of_statusRead (h : exec (.statusRead ps) s = .next t) :
    t.notices = { s.notices with clearStep := s.notices.overrun } := by
  cases exec_statusRead.symm.trans h
  rfl

/-- A NOTICE READ clears the overrun flag if it found the clear step open (R194). -/
theorem overrun_of_noticeRead (h : exec (.noticeRead ps) s = .next t) :
    t.notices.overrun = (s.notices.overrun && !s.notices.clearStep) := by
  cases exec_noticeRead.symm.trans h
  rfl

end

/-- Settles O6: each read is its rule on the command taken. After a STATUS READ the clear step equals the overrun
flag, so the NOTICE READ that follows leaves the flag clear in either case. -/
theorem statusReadThenNoticeRead : Obligations.StatusReadThenNoticeRead := by
  refine ⟨fun ps s => ?status, fun ps s => ?notice, fun ps qs s t u hstatus hnotice => ?pair⟩
  case status =>
    rw [exec_statusRead]
    rfl
  case notice =>
    rw [exec_noticeRead]
    rfl
  case pair =>
    calc u.notices.overrun
      _ = (t.notices.overrun && !t.notices.clearStep) := overrun_of_noticeRead hnotice
      _ = (s.notices.overrun && !s.notices.overrun) := by rw [notices_of_statusRead hstatus]
      _ = false := Bool.and_not_self _

end Sys2Proof.Machine
end

section
/-!
The setup commands of the configuration record: SET TIMING, SET RAMP and SET STROBE as their rules on the command
taken, STB's level after a SET STROBE, and the obligation on the three (R85, R187, R198, R202).
-/
namespace Sys2Proof.Machine

/-! ### The answer of a command whose values are clamped (R187, R202) -/

theorem okOr_not_eq_ite {same : Bool} {p : Prop} [Decidable p] (h : same = true ↔ p) :
    okOr (!same) = if p then .ok else .adjusted := by
  cases same
  · exact (if_neg fun hp => nomatch h.2 hp).symm
  · exact (if_pos (h.1 rfl)).symm

theorem Configuration.timingExact_iff {ps : List Byte} {c : Configuration} :
    c.timingExact ps = true
      ↔ c.beaconPeriod = param2 ps 0 ∧ c.drivePeriod = param2 ps 2 ∧ c.heartbeat = param2 ps 4
        ∧ c.missLimit = param ps 6 ∧ c.yieldWindow = param ps 7 ∧ c.handoverWindow = param ps 8
        ∧ c.hostSilence = param2 ps 9 ∧ c.fleetAge = param2 ps 11 := by
  simp [Configuration.timingExact, and_assoc]

theorem Configuration.rampExact_iff {ps : List Byte} {c : Configuration} :
    c.rampExact ps = true
      ↔ c.rampInterval = param2 ps 0 ∧ c.rampStep = param ps 2 ∧ c.crawlFloor = param ps 3
        ∧ c.reverseRatio = param ps 4 := by
  simp [Configuration.rampExact, and_assoc]

theorem clampNat_zero (hi n : Nat) : clampNat 0 hi n = min hi n := Nat.zero_max _

theorem clampNat_zero_eq_self_iff {hi n : Nat} : clampNat 0 hi n = n ↔ n ≤ hi := by
  rw [clampNat_zero, min_eq_right_iff]

theorem polarityOf_eq_some_iff {n : Nat} {p : Polarity} :
    polarityOf n = some p ↔ n = 0 ∧ p = .activeHigh ∨ n = 1 ∧ p = .activeLow := by
  match n with
  | 0 | 1 => simp [polarityOf, eq_comm]
  | _ + 2 => simp [polarityOf]

theorem polarityOf_eq_none_iff {n : Nat} : polarityOf n = none ↔ 1 < n := by
  match n with
  | 0 | 1 | _ + 2 => simp [polarityOf]

/-! ### The rules of the three commands, taken in SETUP (R198, R202) -/

section
variable {ps : List Byte} {s : State}

theorem exec_setTiming_taken (hs : s.station = .setup) (h : 13 ≤ ps.length) :
    exec (.setTiming ps) s
      = .next (({ s with config := s.config.timing ps } : State).commandTaken.respond
          (okOr (!(s.config.timing ps).timingExact ps)) []) :=
  congrArg Host.Outcome.next (hostCommand_setup hs (decide_eq_true h) _)

theorem exec_setRamp_taken (hs : s.station = .setup) (h : 5 ≤ ps.length) :
    exec (.setRamp ps) s
      = .next (({ s with config := s.config.ramp ps } : State).commandTaken.respond
          (okOr (!(s.config.ramp ps).rampExact ps)) []) :=
  congrArg Host.Outcome.next (hostCommand_setup hs (decide_eq_true h) _)

theorem exec_setStrobe_taken (hs : s.station = .setup) (h : 2 ≤ ps.length) :
    exec (.setStrobe ps) s = .next (finish (s.commandTaken.setStrobe (param ps 0) (param ps 1))) :=
  congrArg Host.Outcome.next (hostCommand_setup hs (decide_eq_true h) _)

theorem State.setStrobe_refused {w n : Nat} (h : polarityOf n = none) :
    s.setStrobe w n = answer .badParameter s := by
  unfold State.setStrobe
  rw [h]

theorem State.setStrobe_of_polarity {w n : Nat} {p : Polarity} (h : polarityOf n = some p) :
    s.setStrobe w n
      = answer (okOr (decide (clampNat 0 127 w ≠ w)))
          { s with config := { s.config with strobeWidth := clampNat 0 127 w, polarity := p } } := by
  unfold State.setStrobe
  rw [h]

/-- SET STROBE with a polarity taken: the width at its bound and the polarity, and nothing else (R202). -/
theorem exec_setStrobe_of_polarity {p : Polarity} (hs : s.station = .setup) (h : 2 ≤ ps.length)
    (hp : polarityOf (param ps 1) = some p) :
    exec (.setStrobe ps) s
      = .next (({ s with
          config := { s.config with strobeWidth := min 127 (param ps 0), polarity := p } } : State).commandTaken.respond
          (if param ps 0 ≤ 127 then .ok else .adjusted) []) := by
  have hcode : okOr (decide (clampNat 0 127 (param ps 0) ≠ param ps 0))
      = if param ps 0 ≤ 127 then .ok else .adjusted := by
    simp only [ne_eq, decide_not]
    exact okOr_not_eq_ite (decide_eq_true_iff.trans clampNat_zero_eq_self_iff)
  rw [exec_setStrobe_taken hs h, State.setStrobe_of_polarity hp, hcode, clampNat_zero]
  rfl

end

/-! ### STB's level (R85) -/

section
variable {s : State}

theorem State.strobing_commandTaken : s.commandTaken.strobing = s.strobing := by
  unfold State.strobing
  rw [State.commandTaken_blocks]
  cases s.blocks <;> rfl

/-- With no strobe, STB is at the inactive level: high exactly for the active-low polarity. -/
theorem State.stb_of_not_strobing (h : s.strobing = false) : s.stb = decide (s.config.polarity = .activeLow) := by
  unfold State.stb
  rw [h]
  cases s.config.polarity <;> rfl

end

/-- Settles O11: the three commands are their rules on the command taken. A value is the nearest bound as the model
clamps it, and the answer compares the values taken with those given; a SET STROBE leaves the strobe as it was, so
STB's level follows from the polarity it took. -/
theorem setTimingRampAndStrobe : Obligations.SetTimingRampAndStrobe := by
  refine ⟨fun ps s hs hlen => ⟨s.config.timing ps, rfl, ?timing⟩,
    fun ps s hs hlen => ⟨s.config.ramp ps, ?rampValues, ?ramp⟩,
    fun ps s hs hlen => ⟨fun p hp => ?taken, fun hcode => ?refused⟩⟩
  case timing =>
    rw [exec_setTiming_taken hs hlen, okOr_not_eq_ite Configuration.timingExact_iff]
  case rampValues =>
    unfold Configuration.ramp
    rw [clampNat_zero]
    rfl
  case ramp =>
    rw [exec_setRamp_taken hs hlen, okOr_not_eq_ite Configuration.rampExact_iff]
  case taken =>
    have htaken := exec_setStrobe_of_polarity hs hlen (polarityOf_eq_some_iff.2 hp)
    refine ⟨htaken, fun t ht hquiet => ?_⟩
    cases htaken.symm.trans ht
    exact State.stb_of_not_strobing (State.strobing_commandTaken.trans hquiet)
  case refused =>
    rw [exec_setStrobe_taken hs hlen, State.setStrobe_refused (polarityOf_eq_none_iff.2 hcode)]
    rfl

end Sys2Proof.Machine
end
